-- ==== Sys2Proof/Word.lean ====
section
/-! DEFINITION. The byte, and tables of a fixed number of records. -/

namespace Sys2Proof

/-- A byte on a port or on the sensor line. -/
abbrev Byte := BitVec 8

/-- A table of exactly `n` records, numbered from 0 (spec 00_scope.md 2.1). -/
abbrev Tab (α : Type) (n : Nat) := Vector α n

/-- The record numbered `i`. -/
def tget {α : Type} {n : Nat} (t : Tab α n) (i : Fin n) : α := t[i.val]

/-- The table with the record numbered `i` replaced. -/
def tset {α : Type} {n : Nat} (t : Tab α n) (i : Fin n) (a : α) : Tab α n := t.set i.val a

/-- The table with the record numbered `i` changed by `f`. -/
def tmod {α : Type} {n : Nat} (t : Tab α n) (i : Fin n) (f : α → α) : Tab α n := tset t i (f (tget t i))

/-- A table whose records are all `a`. -/
def tfill {α : Type} (n : Nat) (a : α) : Tab α n := Vector.replicate n a

/-- The numbers of a table of `n` records, ascending. -/
def idsOf (n : Nat) : List (Fin n) := List.finRange n

/-- A count that stays at `top` once it has reached it (spec 00_scope.md 2.3, "Saturating"). -/
def satAdd (top a b : Nat) : Nat := min top (a + b)

/-- A list with `a` put before the first element that `before a` puts it ahead of. -/
def insertBy {α : Type} (before : α → α → Bool) (a : α) : List α → List α
  | [] => [a]
  | b :: bs => if before a b then a :: b :: bs else b :: insertBy before a bs

/-- A list put in the order of `before`. -/
def sortBy {α : Type} (before : α → α → Bool) (l : List α) : List α :=
  l.foldr (insertBy before) []

/-- A list with its first element that `p` holds of replaced by `a`. -/
def replaceFirst {α : Type} (p : α → Bool) (a : α) : List α → List α
  | [] => []
  | b :: bs => if p b then a :: bs else b :: replaceFirst p a bs

end Sys2Proof
end

