-- ==== Sys2Proof/Config.lean ====
section
/-! DEFINITION. The capacities and constants that the part fixes (spec 00_scope.md 2.2 to 2.5). -/

namespace Sys2Proof.Config

/-- The dock clock's maximum, at which it saturates (R166). -/
def clockMax : Nat := 4294967295

/-- The largest exposure (00_scope.md 2.2; R111). -/
def exposureMax : Nat := 4294967295

/-- The largest frost index and the largest frost carry (R75). -/
def frostMax : Nat := 65535

/-- The largest pallet id (00_scope.md 2.2). -/
def palletIdMax : Nat := 99999999

/-- The largest order number (00_scope.md 2.2). -/
def orderMax : Nat := 65535

/-- Pallet records (00_scope.md 2.4). -/
def palletRecords : Nat := 512

/-- Places in a truck list (00_scope.md 2.4). -/
def truckPlaces : Nat := 30

/-- Move-order records (00_scope.md 2.4). -/
def orderRecords : Nat := 32

/-- Orders linked to one bay request (00_scope.md 2.4). -/
def linkedMax : Nat := 4

/-- Alarm entries (00_scope.md 2.4; R137). -/
def alarmEntries : Nat := 64

/-- The most bytes a payload carries (00_scope.md 2.4; R170). -/
def payloadMax : Nat := 250

/-- The clamp of an open deadline, after the opening (R35). -/
def openClamp : Nat := 14400

/-- Lowest and highest temperature, in tenths (00_scope.md 2.2). -/
def tempMin : Int := -600

/-- See `tempMin`. -/
def tempMax : Int := 500

/-- The most RX samples a reply window can hold: 50 ms at 115,200 bit/s, sixteen a bit (R150, R153). -/
def rxSamplesMax : Nat := 92160

/-- The most bits a master can clock in the 10 ms before a long pulse: SCK runs at up to 8 MHz (10_master_ports.md 10.6, R169). -/
def pulseBitsMax : Nat := 80000

end Sys2Proof.Config
end

