-- ==== Sys2Proof/Syntax.lean ====
section
/-! DEFINITION. The commands of the CD-460: one constructor for each row of the opcode table. -/

namespace Sys2Proof

/-- The three master ports (10_master_ports.md). -/
inductive PortId where
  | A | B | C
  deriving DecidableEq, Repr

abbrev RoomId := Fin 8
abbrev ProbeId := Fin 64
abbrev EntryId := Fin 48
abbrev BayId := Fin 32
abbrev CoilId := Fin 16
abbrev LaneId := Fin 64

/-- What begins a full reset (R167), in the order of section 10.4.1. -/
inductive ResetCause where
  | powerOn | pin | supplyDip
  deriving DecidableEq, Repr

/-- The two ROLE strap pins of one port: yes is high (R164). -/
structure StrapPins where
  role0 : Bool
  role1 : Bool
  deriving DecidableEq, Repr

/-- The strap pins of the three ports, as they stand while a full reset completes (R164). -/
structure Straps where
  a : StrapPins
  b : StrapPins
  c : StrapPins
  deriving DecidableEq, Repr

/-- The part's commands. A request command is the event in which the port unit takes the request in progress on the port it
names (R162); the request's own values are the bytes that SELECTION_END put in progress there (log entry 2). -/
inductive Instr where
  -- Chapter 1
  | setProbe (p : PortId)
  | disableProbe (p : PortId)
  | setRoom (p : PortId)
  | disableRoom (p : PortId)
  | readRoom (p : PortId)
  -- Chapter 2
  | setBay (p : PortId)
  | disableBay (p : PortId)
  | bayRequest (p : PortId)
  | bayRelease (p : PortId)
  | bayExtend (p : PortId)
  | bayLockout (p : PortId)
  | readBay (p : PortId)
  -- Chapter 3
  | setLoadTable (p : PortId)
  | setRoomBudgets (p : PortId)
  | readLoad (p : PortId)
  -- Chapter 4
  | setCoil (p : PortId)
  | disableCoil (p : PortId)
  | setFrostPeriod (p : PortId)
  | defrostRequest (p : PortId)
  | defrostWithdraw (p : PortId)
  | defrostEnd (p : PortId)
  | readCoil (p : PortId)
  -- Chapter 5
  | receive (p : PortId)
  | admitPallet (p : PortId)
  | remove (p : PortId)
  | releaseHold (p : PortId)
  | depart (p : PortId)
  | setLane (p : PortId)
  | disableLane (p : PortId)
  | readLane (p : PortId)
  | readPallet (p : PortId)
  -- Chapter 6
  | setExposurePeriod (p : PortId)
  | readExposure (p : PortId)
  -- Chapter 7
  | orderCreate (p : PortId)
  | orderCancel (p : PortId)
  | orderResume (p : PortId)
  | orderClear (p : PortId)
  | readOrder (p : PortId)
  | fetchOrder (p : PortId)
  | pick (p : PortId)
  | drop (p : PortId)
  | abandon (p : PortId)
  -- Chapter 8
  | ackAlarm (p : PortId)
  | readAlarms (p : PortId)
  | readSummary (p : PortId)
  | setAttentionMask (p : PortId)
  -- Chapter 9
  | setProbeNode (p : PortId)
  | setBayNode (p : PortId)
  | setLine (p : PortId)
  | lineRestart (p : PortId)
  | readNode (p : PortId)
  -- Chapter 10
  | readResetCause (p : PortId)
  | portReset (p : PortId)
  | unknownRequest (p : PortId)
  /-- SEL# of the port rises; `sdi` are the bits sampled on SDI since the selection began, or since its 10 ms ran out, in the
  order sampled. SDO is driven in step, one bit for each (R161). -/
  | selectionEnd (p : PortId) (sdi : List Bool)
  /-- SEL# of the port has been low for 10 ms; `sdi` are the bits sampled on SDI until then (R169). -/
  | longSelPulse (p : PortId) (sdi : List Bool)
  | fullResetBegin (cause : ResetCause)
  | fullResetComplete (straps : Straps)
  | dockClockTick
  -- Expiries
  | frostPeriodExpiry
  | exposurePeriodExpiry
  | seatTimerExpiry (b : BayId)
  | grantLapse (b : BayId)
  | openLimitExpiry (b : BayId)
  | waitTimerExpiry (c : CoilId)
  | defrostTimerExpiry (c : CoilId)
  | heatConfirmExpiry (c : CoilId)
  -- The sensor line
  | linePassStart
  | pollSent
  /-- `rx` are the samples of RX taken since the reply window opened, sixteen to a bit time, yes is high (R153). -/
  | statusFrameReceived (rx : List Bool)
  /-- `rx` as for `statusFrameReceived`. -/
  | replyWindowExpiry (rx : List Bool)
  /-- SEL# of the port falls (R163). -/
  | selectionBegin (p : PortId)
  deriving DecidableEq, Repr

end Sys2Proof
end

