-- ==== Sys2Proof/WellFormed.lean ====
section
/-! DEFINITION. Which commands the electrical facts of the part allow. `exec` does not depend on it. -/

namespace Sys2Proof

/-- The operands of a command stay within what the port clock and the reply window can deliver: at most 80,000 bits before a
long pulse (R169, 10_master_ports.md 10.6), at most 92,160 samples in a reply window (R150, R153). -/
def Instr.wellFormed : Instr → Bool
  | .longSelPulse _ sdi => decide (sdi.length ≤ Config.pulseBitsMax)
  | .statusFrameReceived rx => decide (rx.length ≤ Config.rxSamplesMax)
  | .replyWindowExpiry rx => decide (rx.length ≤ Config.rxSamplesMax)
  | _ => true

end Sys2Proof
end

