-- ==== Sys2Proof/Machine/State.lean ====
section
/-! DEFINITION. The state of the CD-460: every record, table, list, timer and setting the manual gives it. -/

namespace Sys2Proof.Machine

/-! ### Ports (chapter 10) -/

/-- The function of a port (R164), in the order of R164 and of R171's encoding. -/
inductive Role where
  | plant | dock | fleet | monitor
  deriving DecidableEq, Repr

/-- The eight summary flags (section 8.2.1), in the order of R171. -/
inductive Flag where
  | rooms | bays | defrost | pallets | orders | alarms | line | reset
  deriving DecidableEq, Repr

/-- Status codes (00_scope.md 2.6; 10_master_ports.md 10.2.2), in the order of their codes from 0x01. -/
inductive Status where
  | ok | none | frame | unknown | role | range | notEnabled | inUse | state | full | duplicate | notFound | lockedOut | limit
  | empty | wrongPallet | palletHeld | laneFull | bayNotOpen | wrongLocation | notCarried
  deriving DecidableEq, Repr

/-- A response: its status and its payload, whose length is the length byte (R170). -/
structure Response where
  status : Status
  payload : List Byte
  deriving DecidableEq, Repr

/-- A selection in progress (R161): whether it began while READY was low (R163), and whether its 10 ms have run out (R169). -/
structure Selection where
  busy : Bool
  pulsed : Bool
  deriving DecidableEq, Repr

/-- The port context (section 10.1.1). READY is `State.readyPin` and ATN# is `State.atnPin`. -/
structure PortCtx where
  role : Role
  /-- The bytes of the request in progress, the request code first (R162). -/
  request : Option (List Byte)
  response : Option Response
  /-- A set of the eight flags, one bit each (R171). -/
  flags : BitVec 8
  mask : BitVec 8
  selection : Option Selection
  /-- What SDO has driven in the present selection, or in the last, bit by bit (R161, R163). -/
  sdo : List Bool
  deriving DecidableEq, Repr

/-- The three port contexts. -/
structure Ports where
  a : PortCtx
  b : PortCtx
  c : PortCtx
  deriving DecidableEq, Repr

/-- The reset-cause record (section 10.4.1), a role and a demoted mark for each of ports A, B and C. -/
structure ResetRec where
  cause : ResetCause
  roleA : Role
  roleB : Role
  roleC : Role
  demotedA : Bool
  demotedB : Bool
  demotedC : Bool
  count : Nat
  deriving DecidableEq, Repr

/-! ### Alarms (chapter 8) -/

/-- The 18 kinds, in the order of the table of R136. -/
inductive AlarmKind where
  | roomWarn | roomAlarm | roomCritical | roomNoProbe | probeFault | nodeLost | bayOverdue | bayForced | sealLeak
  | frostHigh | defrostOverrun | defrostWarming | defrostNoHeat | defrostDelayed | palletWarn | palletHeld | mispick | misdrop
  deriving DecidableEq, Repr

inductive AlarmState where
  | activeUnacked | activeAcked | clearedUnacked
  deriving DecidableEq, Repr

/-- The alarm entry (section 8.1.1). Its severity is fixed by its kind (`AlarmKind.severity`). -/
structure AlarmEntry where
  kind : AlarmKind
  subject : Nat
  state : AlarmState
  first : Nat
  last : Nat
  repeats : Nat
  value : Option Int
  /-- For NODE_LOST, the role the entry holds (R136); absent for the other kinds. -/
  holder : Option Role
  deriving DecidableEq, Repr

/-! ### The sensor line (chapter 9) -/

inductive NodeKind where
  | bay | probe
  deriving DecidableEq, Repr

inductive NodeState where
  | disabled | unknown | online | lost
  deriving DecidableEq, Repr

/-- The node entry (section 9.1.1). -/
structure NodeEntry where
  kind : Option NodeKind
  address : Option Nat
  enabled : Bool
  state : NodeState
  misses : Nat
  bad : Nat
  /-- The bytes of the latest good STATUS between its kind byte and its check bytes. -/
  payload : Option (List Byte)
  deriving DecidableEq, Repr

inductive LineRate where
  | r19200 | r38400 | r57600 | r115200
  deriving DecidableEq, Repr

/-- How far an exchange has come: its POLL is being sent, or its reply window is open until a time in milliseconds (R152). -/
inductive Phase where
  | sending
  | window (until_ : Nat)
  deriving DecidableEq, Repr

/-- The exchange in progress (R152): the entry polled, the rate its POLL began with (R150), and the bytes of its
POLL. -/
structure Exchange where
  entry : EntryId
  rate : LineRate
  poll : List Byte
  phase : Phase
  deriving DecidableEq, Repr

/-- The line controller: its four settings (R150), its millisecond time, the next pass start (R151), the exchange in progress,
the frame check register (R154), and what TX has driven. -/
structure Line where
  rate : LineRate
  window : Nat
  missLimit : Nat
  period : Nat
  ms : Nat
  nextPass : Nat
  exchange : Option Exchange
  crc : BitVec 16
  /-- What TX has driven in the POLL last sent whole, bit time by bit time, yes for high (R152). -/
  tx : List Bool
  deriving DecidableEq, Repr

/-! ### Probes and rooms (chapter 1) -/

inductive ProbeKind where
  | air | coil
  deriving DecidableEq, Repr

inductive Owner where
  | room (r : RoomId)
  | coil (c : CoilId)
  deriving DecidableEq, Repr

inductive ProbeCond where
  | unused | ok | fault | stale
  deriving DecidableEq, Repr

/-- The two calibration points of a probe. -/
structure Calib where
  loCount : Nat
  hiCount : Nat
  loRef : Int
  hiRef : Int
  deriving DecidableEq, Repr

/-- The probe channel record (section 1.1.1). -/
structure Probe where
  enabled : Bool
  node : Option EntryId
  channel : Fin 4
  kind : ProbeKind
  owner : Option Owner
  cal : Option Calib
  cond : ProbeCond
  value : Option Int
  clamped : Bool
  deriving DecidableEq, Repr

inductive Band where
  | normal | warn | alarm | critical
  deriving DecidableEq, Repr

/-- The recorded room-temperature alarm (R17), in the order of section 1.2.1. -/
inductive RoomAlarm where
  | none | warn | alarm | critical | warming
  deriving DecidableEq, Repr

/-- The settings of a room, as SET_ROOM writes them (R6). -/
structure RoomCfg where
  warn : Int
  alarm : Int
  critical : Int
  hysteresis : Int
  shift : Nat
  surcharge : Int
  reportFalls : Bool
  baseFrost : Nat
  concurrency : Nat
  deriving DecidableEq, Repr

/-- The room climate record (section 1.2.1). -/
structure Room where
  enabled : Bool
  cfg : RoomCfg
  filter : Option Int
  temp : Int
  band : Band
  probeLost : Bool
  tempAlarm : RoomAlarm
  defrosting : Bool
  deriving DecidableEq, Repr

/-! ### Bays and load (chapters 2 and 3) -/

/-- The settings of a bay, as SET_BAY writes them (R21). -/
structure BayCfg where
  grantWindow : Nat
  sealedLimit : Nat
  unsealedLimit : Nat
  sealLevel : Nat
  leakLevel : Nat
  seatTime : Nat
  deriving DecidableEq, Repr

inductive Shutter where
  | closed | moving | open_ | fault | unknown
  deriving DecidableEq, Repr

inductive Seal where
  | none | seating | sealed | leaking
  deriving DecidableEq, Repr

inductive Condition where
  | sealed | seating | leaking | noTruck | fault | lost
  deriving DecidableEq, Repr

inductive Grant where
  | none | requested | granted | active | overdue | forced
  deriving DecidableEq, Repr

inductive LimitKind where
  | sealed | unsealed
  deriving DecidableEq, Repr

/-- The set of lockout causes of a bay (R42). -/
structure Causes where
  master : Bool
  node : Bool
  room : Bool
  deriving DecidableEq, Repr

inductive Origin where
  | dock | local_ | order
  deriving DecidableEq, Repr

/-- A bay's request record (section 3.3.1); its urgent flag is derived (R59), `State.urgent`. -/
structure Request where
  origin : Origin
  priority : Nat
  linked : List Nat
  rank : Nat
  deriving DecidableEq, Repr

/-- The bay record (section 2.1). -/
structure Bay where
  enabled : Bool
  room : RoomId
  node : Option EntryId
  cfg : BayCfg
  shutter : Shutter
  held : Bool
  pressure : Nat
  sealState : Seal
  seatStart : Option Nat
  cond : Condition
  grant : Grant
  causes : Causes
  request : Option Request
  granted : List Nat
  grantedAt : Option Nat
  openedAt : Option Nat
  limitKind : Option LimitKind
  deadline : Option Nat
  extUsed : Nat
  extTotal : Nat
  button : Option Nat
  deriving DecidableEq, Repr

/-- The load table (section 3.1): a weight for each bay condition. -/
structure LoadTable where
  sealed : Nat
  seating : Nat
  leaking : Nat
  noTruck : Nat
  fault : Nat
  lost : Nat
  deriving DecidableEq, Repr

/-- The restraint a waiting list places on bay grants, from the mildest (R53). -/
inductive Claim where
  | none | soft | hard
  deriving DecidableEq, Repr

/-- The room load record (section 3.2.1). Its grant queue is `State.queueOf`. -/
structure RoomLoad where
  normal : Nat
  defrost : Nat
  committed : Nat
  coils : Nat
  claim : Claim
  deriving DecidableEq, Repr

/-! ### Coils (chapter 4) -/

/-- The settings of a coil, as SET_COIL writes them (R67). -/
structure CoilCfg where
  requestLevel : Nat
  alarmLevel : Nat
  maxDefrost : Nat
  maxWait : Nat
  heatTime : Nat
  heatLevel : Int
  deriving DecidableEq, Repr

inductive CoilState where
  | disabled | running | pending | defrost | overrun
  deriving DecidableEq, Repr

/-- The coil record (section 4.1.1), with the expiry times of its three timers (R79, R80, R83). -/
structure Coil where
  enabled : Bool
  room : RoomId
  cfg : CoilCfg
  state : CoilState
  frost : Nat
  due : Bool
  probe : Option ProbeId
  temp : Option Int
  waitStart : Option Nat
  delayed : Bool
  defrostStart : Option Nat
  heatOpen : Bool
  heatConfirmed : Bool
  waitExp : Option Nat
  defrostExp : Option Nat
  heatExp : Option Nat
  deriving DecidableEq, Repr

/-- The room's defrost state (section 4.1.3). -/
structure RoomDefrost where
  carry : Nat
  waiting : List CoilId
  claim : Claim
  deriving DecidableEq, Repr

/-- The frost period timer (R73): the setting, and the start and length of the period now running. -/
structure FrostTimer where
  period : Nat
  start : Nat
  length : Nat
  deriving DecidableEq, Repr

/-! ### Pallets (chapters 5 and 6) -/

inductive Place where
  | lane (l : LaneId)
  | truck (b : BayId)
  | carried (order : Nat)
  deriving DecidableEq, Repr

/-- A pallet record in use (section 5.1.1). -/
structure Pallet where
  id : Nat
  limit : Int
  budget : Nat
  exposure : Nat
  place : Place
  warned : Bool
  held : Bool
  released : Bool
  admittedAt : Nat
  deriving DecidableEq, Repr

/-- The lane record (section 5.2.1), its pallets from the front to the back. -/
structure Lane where
  enabled : Bool
  room : RoomId
  depth : Nat
  quarantine : Bool
  pallets : List Nat
  reservations : Nat
  sourceOf : Option Nat
  deriving DecidableEq, Repr

/-- The truck list of a bay (section 5.2.2), the earliest arrival first. -/
structure Truck where
  pallets : List Nat
  sourceOf : Option Nat
  deriving DecidableEq, Repr

/-- The exposure period timer (section 6.1). -/
structure ExpTimer where
  inForce : Nat
  start : Nat
  next : Nat
  last : Option Nat
  deriving DecidableEq, Repr

/-! ### Orders (chapter 7) -/

/-- A source or a destination: a lane, or the truck list of a bay. -/
inductive Endpoint where
  | lane (l : LaneId)
  | bay (b : BayId)
  deriving DecidableEq, Repr

inductive Mode where
  | single | run | lane
  deriving DecidableEq, Repr

/-- A pick end or a placement. -/
inductive ListEnd where
  | front | back
  deriving DecidableEq, Repr

inductive OrderState where
  | waiting | ready | dispatched | carrying | exception | done | cancelled
  deriving DecidableEq, Repr

inductive WaitReason where
  | bay | destFull | destWarm
  deriving DecidableEq, Repr

inductive ExcCause where
  | misdrop | grantLapsed | released | short | held | palletGone
  deriving DecidableEq, Repr

/-- The order record in use (section 7.1.1). -/
structure Order where
  num : Nat
  mode : Mode
  source : Endpoint
  pickEnd : ListEnd
  named : Nat
  dest : Endpoint
  placement : ListEnd
  requested : Nat
  done : Nat
  priority : Nat
  state : OrderState
  reason : Option WaitReason
  cause : Option ExcCause
  carried : Option Nat
  leadWarned : Bool
  cancelPending : Bool
  createdAt : Nat
  endedAt : Option Nat
  deriving DecidableEq, Repr

/-! ### The whole part -/

/-- The state of the part, and the queue of the commands that wait. -/
structure State where
  pending : List Instr
  clock : Nat
  hold : Option ResetCause
  resetRec : ResetRec
  ports : Ports
  alarms : List AlarmEntry
  overflow : Nat
  nodes : Tab NodeEntry 48
  line : Line
  probes : Tab Probe 64
  rooms : Tab Room 8
  loadTable : LoadTable
  loads : Tab RoomLoad 8
  bays : Tab Bay 32
  coils : Tab Coil 16
  defrosts : Tab RoomDefrost 8
  frostTimer : FrostTimer
  pallets : List Pallet
  lanes : Tab Lane 64
  trucks : Tab Truck 32
  expTimer : ExpTimer
  orders : List Order
  lastOrder : Nat
  deriving DecidableEq, Repr

/-- Why the part stops. Nothing in the manual stops it: a request that cannot be carried out is answered with a status code, so no
command raises a fault. -/
inductive Fault where
  deriving DecidableEq, Repr

/-- Why a command has no meaning here. -/
inductive Refusal where
  /-- A command of the opcode table whose meaning is not written yet, raised by `exec`'s arm alone; safe: the run ends. No arm
  raises it now. -/
  | notModelled (mnemonic : String)
  deriving DecidableEq, Repr

/-! ### Values after full reset -/

/-- A port context after full reset (section 10.1.1, R147). -/
def PortCtx.reset (role : Role) : PortCtx :=
  { role := role, request := none, response := none, flags := 0x80, mask := 0xFF, selection := none, sdo := [] }

/-- A node entry after full reset (R160). -/
def NodeEntry.reset : NodeEntry :=
  { kind := none, address := none, enabled := false, state := .disabled, misses := 0, bad := 0, payload := none }

/-- The line controller after full reset (R160): the first pass starts at 0 and has ended; DESIGN CHOICE: the frame check register
holds all ones (log entry 28); TX has sent nothing. -/
def Line.reset : Line :=
  { rate := .r38400, window := 10, missLimit := 3, period := 10, ms := 0, nextPass := 1000, exchange := none, crc := 0xFFFF, tx := [] }

/-- A probe channel record after full reset (section 1.1.1). -/
def Probe.reset : Probe :=
  { enabled := false, node := none, channel := 0, kind := .air, owner := none, cal := none, cond := .unused, value := none,
    clamped := false }

/-- A room climate record after full reset (section 1.2.1). -/
def Room.reset : Room :=
  { enabled := false,
    cfg := { warn := -180, alarm := -150, critical := -120, hysteresis := 10, shift := 2, surcharge := 30, reportFalls := false,
             baseFrost := 2, concurrency := 1 },
    filter := none, temp := -180, band := .normal, probeLost := false, tempAlarm := .none, defrosting := false }

/-- The load table after full reset (section 3.1). -/
def LoadTable.reset : LoadTable :=
  { sealed := 2, seating := 6, leaking := 12, noTruck := 10, fault := 12, lost := 12 }

/-- A room load record after full reset (section 3.2.1). -/
def RoomLoad.reset : RoomLoad :=
  { normal := 24, defrost := 8, committed := 0, coils := 0, claim := .none }

/-- The set of no lockout cause. -/
def Causes.empty : Causes := { master := false, node := false, room := false }

/-- A bay record after full reset (section 2.1). -/
def Bay.reset : Bay :=
  { enabled := false, room := 0, node := none,
    cfg := { grantWindow := 120, sealedLimit := 1800, unsealedLimit := 120, sealLevel := 120, leakLevel := 80, seatTime := 30 },
    shutter := .unknown, held := false, pressure := 0, sealState := .none, seatStart := none, cond := .lost, grant := .none,
    causes := .empty, request := none, granted := [], grantedAt := none, openedAt := none, limitKind := none, deadline := none,
    extUsed := 0, extTotal := 0, button := none }

/-- A coil record after full reset (section 4.1.1). -/
def Coil.reset : Coil :=
  { enabled := false, room := 0,
    cfg := { requestLevel := 40000, alarmLevel := 55000, maxDefrost := 2400, maxWait := 3600, heatTime := 300, heatLevel := 0 },
    state := .disabled, frost := 0, due := false, probe := none, temp := none, waitStart := none, delayed := false,
    defrostStart := none, heatOpen := false, heatConfirmed := false, waitExp := none, defrostExp := none, heatExp := none }

/-- A room's defrost state after full reset (section 4.1.3). -/
def RoomDefrost.reset : RoomDefrost := { carry := 0, waiting := [], claim := .none }

/-- A lane record after full reset (section 5.2.1). -/
def Lane.reset : Lane :=
  { enabled := false, room := 0, depth := 12, quarantine := false, pallets := [], reservations := 0, sourceOf := none }

/-- A truck list after full reset (section 5.2.2). -/
def Truck.reset : Truck := { pallets := [], sourceOf := none }

/-- The part right after a full reset whose reset-cause record is `rec`, with the commands `pending` still waiting (R167 and the
reset rule of each chapter: R20, R49, R66, R86, R103, R115, R135, R137, R147, R160). -/
def State.afterReset (rec : ResetRec) (pending : List Instr) : State :=
  { pending := pending, clock := 0, hold := none, resetRec := rec,
    ports := { a := .reset rec.roleA, b := .reset rec.roleB, c := .reset rec.roleC },
    alarms := [], overflow := 0,
    nodes := tfill 48 .reset, line := .reset,
    probes := tfill 64 .reset, rooms := tfill 8 .reset,
    loadTable := .reset, loads := tfill 8 .reset, bays := tfill 32 .reset,
    coils := tfill 16 .reset, defrosts := tfill 8 .reset,
    frostTimer := { period := 15, start := 0, length := 15 },
    pallets := [], lanes := tfill 64 .reset, trucks := tfill 32 .reset,
    expTimer := { inForce := 10, start := 0, next := 10, last := none },
    orders := [], lastOrder := 0 }

/-- The part right after a power-on reset. DESIGN CHOICE: the straps give PLANT to port A, DOCK to port B and FLEET to port C, as in
the worked sequence of section 8.3 (log entry 1). -/
def State.reset : State :=
  .afterReset { cause := .powerOn, roleA := .plant, roleB := .dock, roleC := .fleet, demotedA := false, demotedB := false,
                demotedC := false, count := 0 } []

end Sys2Proof.Machine
end

