-- ==== Sys2Proof/Machine/Ops.lean ====
section
/-! DEFINITION. The named operations over the tables of the state: one reader and one writer for each kind of record, the dock clock,
and the wrapper every event goes through. -/

namespace Sys2Proof.Machine

/-! ### The records -/

/-- The context of a port. -/
def Ports.get (ps : Ports) : PortId → PortCtx
  | .A => ps.a
  | .B => ps.b
  | .C => ps.c

/-- The contexts with one port's changed. -/
def Ports.modify (ps : Ports) (p : PortId) (f : PortCtx → PortCtx) : Ports :=
  match p with
  | .A => { ps with a := f ps.a }
  | .B => { ps with b := f ps.b }
  | .C => { ps with c := f ps.c }

/-- The contexts with every port's changed. -/
def Ports.map (ps : Ports) (f : PortCtx → PortCtx) : Ports := { a := f ps.a, b := f ps.b, c := f ps.c }

def State.port (s : State) (p : PortId) : PortCtx := s.ports.get p
def State.modPort (s : State) (p : PortId) (f : PortCtx → PortCtx) : State := { s with ports := s.ports.modify p f }

def State.node (s : State) (e : EntryId) : NodeEntry := tget s.nodes e
def State.modNode (s : State) (e : EntryId) (f : NodeEntry → NodeEntry) : State := { s with nodes := tmod s.nodes e f }

def State.probe (s : State) (n : ProbeId) : Probe := tget s.probes n
def State.modProbe (s : State) (n : ProbeId) (f : Probe → Probe) : State := { s with probes := tmod s.probes n f }

def State.room (s : State) (r : RoomId) : Room := tget s.rooms r
def State.modRoom (s : State) (r : RoomId) (f : Room → Room) : State := { s with rooms := tmod s.rooms r f }

def State.load (s : State) (r : RoomId) : RoomLoad := tget s.loads r
def State.modLoad (s : State) (r : RoomId) (f : RoomLoad → RoomLoad) : State := { s with loads := tmod s.loads r f }

def State.bay (s : State) (b : BayId) : Bay := tget s.bays b
def State.modBay (s : State) (b : BayId) (f : Bay → Bay) : State := { s with bays := tmod s.bays b f }

def State.coil (s : State) (c : CoilId) : Coil := tget s.coils c
def State.modCoil (s : State) (c : CoilId) (f : Coil → Coil) : State := { s with coils := tmod s.coils c f }

def State.defrost (s : State) (r : RoomId) : RoomDefrost := tget s.defrosts r
def State.modDefrost (s : State) (r : RoomId) (f : RoomDefrost → RoomDefrost) : State :=
  { s with defrosts := tmod s.defrosts r f }

def State.lane (s : State) (l : LaneId) : Lane := tget s.lanes l
def State.modLane (s : State) (l : LaneId) (f : Lane → Lane) : State := { s with lanes := tmod s.lanes l f }

def State.truck (s : State) (b : BayId) : Truck := tget s.trucks b
def State.modTruck (s : State) (b : BayId) (f : Truck → Truck) : State := { s with trucks := tmod s.trucks b f }

/-! ### Numbers of records -/

def allRooms : List RoomId := idsOf 8
def allProbes : List ProbeId := idsOf 64
def allEntries : List EntryId := idsOf 48
def allBays : List BayId := idsOf 32
def allCoils : List CoilId := idsOf 16
def allLanes : List LaneId := idsOf 64

/-- The number `n` as the number of a record, when the table has that record. -/
def idOf (m n : Nat) : Option (Fin m) := if h : n < m then some ⟨n, h⟩ else none

/-! ### Times -/

/-- A time on the dock clock, set to the clock's maximum when it lies beyond it (R35, R68, R80). -/
def clampTime (t : Nat) : Nat := min t Config.clockMax

/-- A timer whose time is `t` has expired: the dock clock has reached it (R166). An absent timer does not run. -/
def State.reached (s : State) (t : Option Nat) : Bool :=
  match t with
  | some t => decide (t ≤ s.clock)
  | none => false

/-! ### Events -/

/-- An event of the part. While the part is held in reset nothing is taken (R167). -/
def takeEvent (f : State → State) (s : State) : Host.Outcome State Fault Refusal :=
  .next (if s.hold.isSome then s else f s)

/-- An event that has its effect only where `due` says it can occur: a timer that has not expired, or an exchange that has not come
so far, raises no event (log entry 5). -/
def takeWhen (due : State → Bool) (f : State → State) (s : State) : Host.Outcome State Fault Refusal :=
  takeEvent (fun s => if due s then f s else s) s

end Sys2Proof.Machine
end

