-- ==== Sys2Proof/Machine/Flags.lean ====
section
/-! DEFINITION. The summary flags, the attention mask and the output pins (section 8.2; sections 10.1 and 10.4). -/

namespace Sys2Proof.Machine

/-- The bit of a flag in a set of flags (R171). -/
def Flag.bit : Flag → BitVec 8
  | .rooms => 0x01
  | .bays => 0x02
  | .defrost => 0x04
  | .pallets => 0x08
  | .orders => 0x10
  | .alarms => 0x20
  | .line => 0x40
  | .reset => 0x80

/-- A port context with a flag set; setting a flag that is set leaves it set (R144). -/
def PortCtx.setFlag (f : Flag) (c : PortCtx) : PortCtx := { c with flags := c.flags ||| f.bit }

/-- A flag set for roles goes to each port that holds one of them, and to every MONITOR port: every flag of section 8.2.1 that is
set for a role is set for MONITOR too (R144). -/
def PortCtx.takesFlag (roles : List Role) (c : PortCtx) : Bool := c.role == .monitor || roles.contains c.role

/-- Sets a flag on the ports of the roles given and on the MONITOR ports (R144). -/
def setFlag (roles : List Role) (f : Flag) (s : State) : State :=
  { s with ports := s.ports.map fun c => if c.takesFlag roles then c.setFlag f else c }

/-- Sets a flag on every port, whatever its role (R141). -/
def setFlagAll (f : Flag) (s : State) : State := { s with ports := s.ports.map (PortCtx.setFlag f) }

/-- READY is low exactly while a request is in progress (section 10.1.1), and while the part is held in reset (R167). -/
def State.readyPin (s : State) (p : PortId) : Bool := !(s.port p).request.isSome && !s.hold.isSome

/-- ATN# is asserted, driven low, while a flag that is set is in the mask (R146); a part held in reset drives it high (R167). The
answer is yes when it is asserted. -/
def State.atnPin (s : State) (p : PortId) : Bool := (s.port p).flags &&& (s.port p).mask != 0 && !s.hold.isSome

/-- DIR is driven to transmit while a POLL is being sent (R152); a part held in reset drives it to receive (R167). -/
def State.dirPin (s : State) : Bool :=
  match s.line.exchange with
  | some x => x.phase == .sending && !s.hold.isSome
  | none => false

/-- A full reset of a role's port by its straps (R164). -/
def strapRole (p : StrapPins) : Role :=
  match p.role0, p.role1 with
  | false, false => .plant
  | true, false => .dock
  | false, true => .fleet
  | true, true => .monitor

/-- The role a port takes when earlier ports hold `earlier`, and whether it is demoted: a role other than MONITOR that an earlier port
holds gives MONITOR (R164). -/
def takeRole (strapped : Role) (earlier : List Role) : Role × Bool :=
  if strapped != .monitor && earlier.contains strapped then (.monitor, true) else (strapped, false)

end Sys2Proof.Machine
end

