-- ==== Sys2Proof/Machine/Alarms.lean ====
section
/-! DEFINITION. The alarm list: kinds, raising, clearing, acknowledgement, the full list (section 8.1). -/

namespace Sys2Proof.Machine

/-- The severity of a kind (R136). -/
def AlarmKind.severity : AlarmKind → Nat
  | .roomWarn => 1
  | .roomAlarm => 2
  | .roomCritical => 3
  | .roomNoProbe => 2
  | .probeFault => 1
  | .nodeLost => 2
  | .bayOverdue => 2
  | .bayForced => 2
  | .sealLeak => 1
  | .frostHigh => 2
  | .defrostOverrun => 3
  | .defrostWarming => 2
  | .defrostNoHeat => 2
  | .defrostDelayed => 1
  | .palletWarn => 1
  | .palletHeld => 2
  | .mispick => 1
  | .misdrop => 2

/-- The roles a kind is routed to, besides MONITOR (R136). The routing of NODE_LOST is the role its entry holds, `AlarmEntry.roles`. -/
def AlarmKind.routes : AlarmKind → List Role
  | .roomWarn | .roomAlarm | .roomCritical => [.plant, .dock]
  | .roomNoProbe | .probeFault => [.plant]
  | .nodeLost => []
  | .bayOverdue | .bayForced | .sealLeak => [.dock]
  | .frostHigh | .defrostOverrun => [.plant]
  | .defrostWarming => [.plant, .dock]
  | .defrostNoHeat => [.plant]
  | .defrostDelayed => [.plant, .dock]
  | .palletWarn => [.dock]
  | .palletHeld => [.dock, .fleet]
  | .mispick | .misdrop => [.dock, .fleet]

/-- MISPICK and MISDROP are event alarms, the others condition alarms (R136). -/
def AlarmKind.isEvent : AlarmKind → Bool
  | .mispick | .misdrop => true
  | _ => false

/-- The range of a kind's subjects (section 8.1.1, R136): lowest and highest. -/
def AlarmKind.subjects : AlarmKind → Nat × Nat
  | .roomWarn | .roomAlarm | .roomCritical | .roomNoProbe | .defrostWarming => (0, 7)
  | .probeFault => (0, 63)
  | .nodeLost => (0, 47)
  | .bayOverdue | .bayForced | .sealLeak => (0, 31)
  | .frostHigh | .defrostOverrun | .defrostNoHeat | .defrostDelayed => (0, 15)
  | .palletWarn | .palletHeld => (1, Config.palletIdMax)
  | .mispick | .misdrop => (1, Config.orderMax)

/-- The roles an entry is routed to, besides MONITOR: for NODE_LOST the one it holds (R136). -/
def AlarmEntry.roles (e : AlarmEntry) : List Role :=
  match e.holder with
  | some r => [r]
  | none => e.kind.routes

/-- The entry is for this kind and subject. -/
def AlarmEntry.isFor (k : AlarmKind) (subject : Nat) (e : AlarmEntry) : Bool := e.kind == k && e.subject == subject

/-- The entry for a kind and subject, if the list holds one (R137). -/
def State.alarm (s : State) (k : AlarmKind) (subject : Nat) : Option AlarmEntry := s.alarms.find? (·.isFor k subject)

/-- A raise merged into its entry (R138). -/
def AlarmEntry.merge (now : Nat) (value : Option Int) (holder : Option Role) (e : AlarmEntry) : AlarmEntry :=
  { e with repeats := satAdd 255 e.repeats 1, last := now, value := value, state := .activeUnacked, holder := holder }

/-- A new entry (R138). -/
def AlarmEntry.new (k : AlarmKind) (subject now : Nat) (value : Option Int) (holder : Option Role) : AlarmEntry :=
  { kind := k, subject := subject, state := .activeUnacked, first := now, last := now, repeats := 0, value := value,
    holder := holder }

/-- The entry a full list gives up for a new alarm of this severity: the oldest in CLEARED_UNACKED, otherwise the oldest in
ACTIVE_ACKED of a lower severity (R141). -/
def alarmVictim (severity : Nat) (l : List AlarmEntry) : Option AlarmEntry :=
  match l.find? (fun e => e.state == .clearedUnacked) with
  | some e => some e
  | none => l.find? (fun e => e.state == .activeAcked && decide (e.kind.severity < severity))

/-- Raises an alarm (R138, R141), with the ALARMS flags of R142. DESIGN CHOICE: a merge that changes the role a NODE_LOST entry holds sets ALARMS
for the new role, and on MONITOR ports, but not for the role held before (log entry 44). -/
def raiseHeld (k : AlarmKind) (subject : Nat) (value : Option Int) (holder : Option Role) (s : State) : State :=
  let e := AlarmEntry.new k subject s.clock value holder
  match s.alarm k subject with
  | some _ =>
    setFlag e.roles .alarms
      { s with alarms := s.alarms.map fun x => if x.isFor k subject then x.merge s.clock value holder else x }
  | none =>
    if s.alarms.length < Config.alarmEntries then setFlag e.roles .alarms { s with alarms := s.alarms ++ [e] }
    else
      match alarmVictim k.severity s.alarms with
      | some v =>
        setFlag e.roles .alarms (setFlag v.roles .alarms { s with alarms := s.alarms.eraseP (·.isFor v.kind v.subject) ++ [e] })
      | none => setFlagAll .alarms { s with overflow := satAdd 65535 s.overflow 1 }

/-- Raises an alarm of a kind other than NODE_LOST. -/
def raiseAlarm (k : AlarmKind) (subject : Nat) (value : Option Int) (s : State) : State := raiseHeld k subject value none s

/-- Clears a condition alarm (R139), with the ALARMS flags of R142. -/
def clearAlarm (k : AlarmKind) (subject : Nat) (s : State) : State :=
  match s.alarm k subject with
  | none => s
  | some e =>
    match e.state with
    | .activeUnacked =>
      setFlag e.roles .alarms
        { s with alarms := s.alarms.map fun x => if x.isFor k subject then { x with state := .clearedUnacked } else x }
    | .activeAcked => setFlag e.roles .alarms { s with alarms := s.alarms.eraseP (·.isFor k subject) }
    | .clearedUnacked => s

/-- Sets ALARMS for an entry on the ports it is routed to, but not on the port whose request changed it (R142). -/
def setAlarmsButOn (p : PortId) (roles : List Role) (s : State) : State :=
  let own := (s.port p).flags
  (setFlag roles .alarms s).modPort p fun c => { c with flags := own }

/-- What an acknowledgement leaves of an entry: a condition alarm in ACTIVE_UNACKED stays, acknowledged; anything else is removed
(R140). -/
def AlarmEntry.acked (e : AlarmEntry) : Option AlarmEntry :=
  if e.state == .activeUnacked && !e.kind.isEvent then some { e with state := .activeAcked } else none

/-- The part of the alarm list a role sees (R143). -/
def alarmView (role : Role) (l : List AlarmEntry) : List AlarmEntry :=
  l.filter fun e => role == .monitor || e.roles.contains role

end Sys2Proof.Machine
end

