-- ==== Sys2Proof/Machine/Operands.lean ====
section
/-! DEFINITION. The bytes of requests and responses (section 10.5): the forms of R171, and the values each request's payload carries. -/

namespace Sys2Proof.Machine

/-! ### Values from bytes, high byte first (R170) -/

def nat2 (h l : Byte) : Nat := h.toNat * 256 + l.toNat
def nat4 (a b c d : Byte) : Nat := nat2 a b * 65536 + nat2 c d

/-- Two bytes, signed (R171). -/
def int2 (h l : Byte) : Int := (BitVec.ofNat 16 (nat2 h l)).toInt

/-! ### Bytes from values -/

def w1 (n : Nat) : List Byte := [BitVec.ofNat 8 n]
def w2 (n : Nat) : List Byte := [BitVec.ofNat 8 (n / 256), BitVec.ofNat 8 n]
def w4 (n : Nat) : List Byte := w2 (n / 65536) ++ w2 n
def i2 (x : Int) : List Byte := w2 (BitVec.ofInt 16 x).toNat
def i4 (x : Int) : List Byte := w4 (BitVec.ofInt 32 x).toNat
def yn (b : Bool) : List Byte := if b then [1] else [0]

/-- An optional field: a presence byte, then the value, whose `k` bytes are 0x00 when it is absent (R171). -/
def optional (k : Nat) : Option (List Byte) → List Byte
  | some v => (1 : Byte) :: v
  | none => (0 : Byte) :: List.replicate k 0

/-- The whole items of a payload that fit into `left` bytes, from the first: it ends after the last whole item that fits (R171). -/
def fitItems : Nat → List (List Byte) → List Byte
  | _, [] => []
  | left, x :: xs => if x.length ≤ left then x ++ fitItems (left - x.length) xs else []

/-- A payload with fixed values, and then lists whose items may be left out at its end (R171). -/
def payloadOf (items : List (List Byte)) : List Byte := fitItems Config.payloadMax items

/-- A list: the number of items it holds, then the items (R171). -/
def listItems (items : List (List Byte)) : List (List Byte) := w1 items.length :: items

/-! ### Names as bytes, in the order of the table that gives them (R171) -/

def Status.code : Status → Nat
  | .ok => 0x01 | .none => 0x02 | .frame => 0x03 | .unknown => 0x04 | .role => 0x05 | .range => 0x06 | .notEnabled => 0x07
  | .inUse => 0x08 | .state => 0x09 | .full => 0x0A | .duplicate => 0x0B | .notFound => 0x0C | .lockedOut => 0x0D | .limit => 0x0E
  | .empty => 0x0F | .wrongPallet => 0x10 | .palletHeld => 0x11 | .laneFull => 0x12 | .bayNotOpen => 0x13 | .wrongLocation => 0x14
  | .notCarried => 0x15

def Role.code : Role → Nat
  | .plant => 0 | .dock => 1 | .fleet => 2 | .monitor => 3

def causeCode : ResetCause → Nat
  | .powerOn => 0 | .pin => 1 | .supplyDip => 2

def AlarmKind.code : AlarmKind → Nat
  | .roomWarn => 0 | .roomAlarm => 1 | .roomCritical => 2 | .roomNoProbe => 3 | .probeFault => 4 | .nodeLost => 5
  | .bayOverdue => 6 | .bayForced => 7 | .sealLeak => 8 | .frostHigh => 9 | .defrostOverrun => 10 | .defrostWarming => 11
  | .defrostNoHeat => 12 | .defrostDelayed => 13 | .palletWarn => 14 | .palletHeld => 15 | .mispick => 16 | .misdrop => 17

/-- The kind a byte names, if it names one of the 18. -/
def alarmKindOf : Nat → Option AlarmKind
  | 0 => some .roomWarn | 1 => some .roomAlarm | 2 => some .roomCritical | 3 => some .roomNoProbe | 4 => some .probeFault
  | 5 => some .nodeLost | 6 => some .bayOverdue | 7 => some .bayForced | 8 => some .sealLeak | 9 => some .frostHigh
  | 10 => some .defrostOverrun | 11 => some .defrostWarming | 12 => some .defrostNoHeat | 13 => some .defrostDelayed
  | 14 => some .palletWarn | 15 => some .palletHeld | 16 => some .mispick | 17 => some .misdrop
  | _ => none

def AlarmState.code : AlarmState → Nat
  | .activeUnacked => 0 | .activeAcked => 1 | .clearedUnacked => 2

def NodeKind.code : NodeKind → Nat
  | .bay => 0 | .probe => 1

def NodeState.code : NodeState → Nat
  | .disabled => 0 | .unknown => 1 | .online => 2 | .lost => 3

def LineRate.code : LineRate → Nat
  | .r19200 => 0 | .r38400 => 1 | .r57600 => 2 | .r115200 => 3

def lineRateOf : Nat → Option LineRate
  | 0 => some .r19200 | 1 => some .r38400 | 2 => some .r57600 | 3 => some .r115200 | _ => none

def ProbeCond.code : ProbeCond → Nat
  | .unused => 0 | .ok => 1 | .fault => 2 | .stale => 3

def Band.code : Band → Nat
  | .normal => 0 | .warn => 1 | .alarm => 2 | .critical => 3

def RoomAlarm.code : RoomAlarm → Nat
  | .none => 0 | .warn => 1 | .alarm => 2 | .critical => 3 | .warming => 4

def Shutter.code : Shutter → Nat
  | .closed => 0 | .moving => 1 | .open_ => 2 | .fault => 3 | .unknown => 4

def Seal.code : Seal → Nat
  | .none => 0 | .seating => 1 | .sealed => 2 | .leaking => 3

def Condition.code : Condition → Nat
  | .sealed => 0 | .seating => 1 | .leaking => 2 | .noTruck => 3 | .fault => 4 | .lost => 5

def Grant.code : Grant → Nat
  | .none => 0 | .requested => 1 | .granted => 2 | .active => 3 | .overdue => 4 | .forced => 5

/-- The set of causes, bit 0 MASTER, bit 1 NODE, bit 2 ROOM. -/
def Causes.code (c : Causes) : Nat := c.master.toNat + 2 * c.node.toNat + 4 * c.room.toNat

def Origin.code : Origin → Nat
  | .dock => 0 | .local_ => 1 | .order => 2

def LimitKind.code : LimitKind → Nat
  | .sealed => 0 | .unsealed => 1

def Claim.code : Claim → Nat
  | .none => 0 | .soft => 1 | .hard => 2

def CoilState.code : CoilState → Nat
  | .disabled => 0 | .running => 1 | .pending => 2 | .defrost => 3 | .overrun => 4

def Mode.code : Mode → Nat
  | .single => 0 | .run => 1 | .lane => 2

def modeOf : Nat → Option Mode
  | 0 => some .single | 1 => some .run | 2 => some .lane | _ => none

def ListEnd.code : ListEnd → Nat
  | .front => 0 | .back => 1

def listEndOf : Nat → Option ListEnd
  | 0 => some .front | 1 => some .back | _ => none

def OrderState.code : OrderState → Nat
  | .waiting => 0 | .ready => 1 | .dispatched => 2 | .carrying => 3 | .exception => 4 | .done => 5 | .cancelled => 6

def WaitReason.code : WaitReason → Nat
  | .bay => 0 | .destFull => 1 | .destWarm => 2

def ExcCause.code : ExcCause → Nat
  | .misdrop => 0 | .grantLapsed => 1 | .released => 2 | .short => 3 | .held => 4 | .palletGone => 5

/-- A lane or bay as endpoint: 0x00 lane or 0x01 bay, then its number. -/
def Endpoint.bytes : Endpoint → List Byte
  | .lane l => w1 0 ++ w1 l.val
  | .bay b => w1 1 ++ w1 b.val

/-- A lane 0 to 63 or a bay 0 to 31, from its two bytes. -/
def endpointOf (kind n : Nat) : Option Endpoint :=
  if kind = 0 then (idOf 64 n).map .lane else if kind = 1 then (idOf 32 n).map .bay else none

/-- A pallet's place: 0x00 LANE, 0x01 TRUCK or 0x02 CARRIED, then two bytes. -/
def Place.bytes : Place → List Byte
  | .lane l => w1 0 ++ w2 l.val
  | .truck b => w1 1 ++ w2 b.val
  | .carried n => w1 2 ++ w2 n

/-- A yes-or-no byte: 0x00 no, 0x01 yes, and no other value. -/
def yesNoOf : Nat → Option Bool
  | 0 => some false | 1 => some true | _ => none

/-! ### The payloads of requests

A parser answers `none` when the payload's length fits no form of the request (R162, R171). The values are taken as they stand; the owning
block checks their ranges. -/

/-- No value. -/
def parse0 : List Byte → Option Unit
  | [] => some ()
  | _ => none

/-- One byte. -/
def parse1 : List Byte → Option Nat
  | [a] => some a.toNat
  | _ => none

/-- Two bytes, one value each. -/
def parse11 : List Byte → Option (Nat × Nat)
  | [a, b] => some (a.toNat, b.toNat)
  | _ => none

/-- Three bytes, one value each. -/
def parse111 : List Byte → Option (Nat × Nat × Nat)
  | [a, b, c] => some (a.toNat, b.toNat, c.toNat)
  | _ => none

/-- Four bytes, one value each. -/
def parse1111 : List Byte → Option (Nat × Nat × Nat × Nat)
  | [a, b, c, d] => some (a.toNat, b.toNat, c.toNat, d.toNat)
  | _ => none

/-- One value of two bytes. -/
def parse2 : List Byte → Option Nat
  | [a, b] => some (nat2 a b)
  | _ => none

/-- One value of four bytes. -/
def parse4 : List Byte → Option Nat
  | [a, b, c, d] => some (nat4 a b c d)
  | _ => none

/-- A value of one byte and a value of two. -/
def parse12 : List Byte → Option (Nat × Nat)
  | [a, b, c] => some (a.toNat, nat2 b c)
  | _ => none

/-- A value of one byte and a value of four. -/
def parse14 : List Byte → Option (Nat × Nat)
  | [a, b, c, d, e] => some (a.toNat, nat4 b c d e)
  | _ => none

/-- A value of two bytes and a value of four. -/
def parse24 : List Byte → Option (Nat × Nat)
  | [a, b, c, d, e, f] => some (nat2 a b, nat4 c d e f)
  | _ => none

/-- What SET_PROBE carries (R1). -/
structure ProbeReq where
  probe : Nat
  node : Nat
  channel : Nat
  kind : Nat
  owner : Nat
  cal : Calib
  deriving DecidableEq, Repr

def parseProbeReq : List Byte → Option ProbeReq
  | [p, e, c, k, o, a1, a0, b1, b0, c1, c0, d1, d0] =>
    some { probe := p.toNat, node := e.toNat, channel := c.toNat, kind := k.toNat, owner := o.toNat,
           cal := { loCount := nat2 a1 a0, hiCount := nat2 b1 b0, loRef := int2 c1 c0, hiRef := int2 d1 d0 } }
  | _ => none

/-- What SET_ROOM carries (R6); the report-falls flag is its byte. -/
structure RoomReq where
  room : Nat
  reportFalls : Nat
  cfg : RoomCfg
  deriving DecidableEq, Repr

def parseRoomReq : List Byte → Option RoomReq
  | [r, w1, w0, a1, a0, c1, c0, h, k, u, f, b1, b0, n] =>
    some { room := r.toNat, reportFalls := f.toNat,
           cfg := { warn := int2 w1 w0, alarm := int2 a1 a0, critical := int2 c1 c0, hysteresis := h.toNat, shift := k.toNat,
                    surcharge := u.toNat, reportFalls := f == 1, baseFrost := nat2 b1 b0, concurrency := n.toNat } }
  | _ => none

/-- What SET_BAY carries (R21). -/
structure BayReq where
  bay : Nat
  room : Nat
  node : Nat
  cfg : BayCfg
  deriving DecidableEq, Repr

def parseBayReq : List Byte → Option BayReq
  | [b, r, e, g1, g0, s1, s0, u1, u0, sl, ll, t1, t0] =>
    some { bay := b.toNat, room := r.toNat, node := e.toNat,
           cfg := { grantWindow := nat2 g1 g0, sealedLimit := nat2 s1 s0, unsealedLimit := nat2 u1 u0, sealLevel := sl.toNat,
                    leakLevel := ll.toNat, seatTime := nat2 t1 t0 } }
  | _ => none

/-- What SET_LOAD_TABLE carries, in the order of section 3.1 (R50). -/
def parseLoadTable : List Byte → Option LoadTable
  | [a, b, c, d, e, f] =>
    some { sealed := a.toNat, seating := b.toNat, leaking := c.toNat, noTruck := d.toNat, fault := e.toNat, lost := f.toNat }
  | _ => none

/-- What SET_COIL carries (R67). -/
structure CoilReq where
  coil : Nat
  room : Nat
  cfg : CoilCfg
  deriving DecidableEq, Repr

def parseCoilReq : List Byte → Option CoilReq
  | [c, r, q1, q0, a1, a0, d1, d0, w1, w0, t1, t0, h1, h0] =>
    some { coil := c.toNat, room := r.toNat,
           cfg := { requestLevel := nat2 q1 q0, alarmLevel := nat2 a1 a0, maxDefrost := nat2 d1 d0, maxWait := nat2 w1 w0,
                    heatTime := nat2 t1 t0, heatLevel := int2 h1 h0 } }
  | _ => none

/-- What RECEIVE and ADMIT carry: a bay or lane, and the pallet (R89, R90). -/
structure AdmitReq where
  at_ : Nat
  id : Nat
  limit : Int
  budget : Nat
  exposure : Nat
  deriving DecidableEq, Repr

def parseAdmitReq : List Byte → Option AdmitReq
  | [p, i3, i2, i1, i0, l1, l0, b3, b2, b1, b0, e3, e2, e1, e0] =>
    some { at_ := p.toNat, id := nat4 i3 i2 i1 i0, limit := int2 l1 l0, budget := nat4 b3 b2 b1 b0, exposure := nat4 e3 e2 e1 e0 }
  | _ => none

/-- The two forms of READ_PALLET (R102): by id, or by place with a start position; a form byte that names neither. -/
inductive PalletQuery where
  | byId (id : Nat)
  | byPlace (kind n start : Nat)
  | badForm
  deriving DecidableEq, Repr

/-- DESIGN CHOICE: a form byte 0x00 or 0x01 whose payload has the other form's length is taken as a length that does not fit (log
entry 13). -/
def parsePalletQuery : List Byte → Option PalletQuery
  | [f, a, b, c, d] =>
    if f = 0 then some (.byId (nat4 a b c d)) else if f = 1 then none else some .badForm
  | [f, k, n, p] =>
    if f = 1 then some (.byPlace k.toNat n.toNat p.toNat) else if f = 0 then none else some .badForm
  | _ => none

/-- What ORDER_CREATE carries (R117, R171). -/
structure CreateReq where
  mode : Nat
  sourceKind : Nat
  sourceNum : Nat
  destKind : Nat
  destNum : Nat
  placement : Nat
  priority : Nat
  named : Nat
  pickEnd : Nat
  count : Nat
  deriving DecidableEq, Repr

def parseCreateReq : List Byte → Option CreateReq
  | [m, sk, sn, dk, dn, pl, pr, n3, n2, n1, n0, pe, ct] =>
    some { mode := m.toNat, sourceKind := sk.toNat, sourceNum := sn.toNat, destKind := dk.toNat, destNum := dn.toNat,
           placement := pl.toNat, priority := pr.toNat, named := nat4 n3 n2 n1 n0, pickEnd := pe.toNat, count := ct.toNat }
  | _ => none

/-- What DROP carries (R128). -/
structure DropReq where
  order : Nat
  id : Nat
  locKind : Nat
  locNum : Nat
  deriving DecidableEq, Repr

def parseDropReq : List Byte → Option DropReq
  | [o1, o0, i3, i2, i1, i0, k, n] =>
    some { order := nat2 o1 o0, id := nat4 i3 i2 i1 i0, locKind := k.toNat, locNum := n.toNat }
  | _ => none

end Sys2Proof.Machine
end

