-- ==== Sys2Proof/Machine/Pallets.lean ====
section
/-! DEFINITION. The pallet table's shared operations: lists, temperatures, and the four operations the order unit asks for (sections 5.3
and 6.3). -/

namespace Sys2Proof.Machine

/-! ### Records and lists -/

/-- A pallet id in its range (00_scope.md 2.2). -/
def idInRange (id : Nat) : Bool := decide (1 ≤ id ∧ id ≤ Config.palletIdMax)

/-- The record in use that holds an id (R87). -/
def State.pallet (s : State) (id : Nat) : Option Pallet := s.pallets.find? (·.id == id)

/-- Changes the record that holds an id. -/
def State.modPallet (s : State) (id : Nat) (f : Pallet → Pallet) : State :=
  { s with pallets := s.pallets.map fun x => if x.id == id then f x else x }

/-- The number of free pallet records (R102). -/
def State.freePallets (s : State) : Nat := Config.palletRecords - s.pallets.length

/-- The pallets of a lane or truck list, from the front to the back. -/
def State.listAt (s : State) : Endpoint → List Nat
  | .lane l => (s.lane l).pallets
  | .bay b => (s.truck b).pallets

/-- Changes the pallets of a lane or truck list. -/
def State.modList (s : State) (ep : Endpoint) (f : List Nat → List Nat) : State :=
  match ep with
  | .lane l => s.modLane l fun x => { x with pallets := f x.pallets }
  | .bay b => s.modTruck b fun x => { x with pallets := f x.pallets }

/-- The order whose source is a lane or truck list (R101). -/
def State.sourceOf (s : State) : Endpoint → Option Nat
  | .lane l => (s.lane l).sourceOf
  | .bay b => (s.truck b).sourceOf

/-- Records the order whose source is a lane or truck list, or makes it absent (R101). -/
def State.setSourceOf (s : State) (ep : Endpoint) (o : Option Nat) : State :=
  match ep with
  | .lane l => s.modLane l fun x => { x with sourceOf := o }
  | .bay b => s.modTruck b fun x => { x with sourceOf := o }

/-- The place of a pallet that stands in a lane or truck list. -/
def Endpoint.place : Endpoint → Place
  | .lane l => .lane l
  | .bay b => .truck b

/-- The lane or truck list a place is, if it is one. -/
def Place.endpoint : Place → Option Endpoint
  | .lane l => some (.lane l)
  | .truck b => some (.bay b)
  | .carried _ => none

/-- The room of a lane or of a bay. -/
def State.roomOf (s : State) : Endpoint → RoomId
  | .lane l => (s.lane l).room
  | .bay b => (s.bay b).room

/-- The lane or bay is enabled. -/
def State.endpointEnabled (s : State) : Endpoint → Bool
  | .lane l => (s.lane l).enabled
  | .bay b => (s.bay b).enabled

/-- A lane's occupancy plus its reservations has reached its depth (R95). -/
def Lane.isFull (l : Lane) : Bool := decide (l.depth ≤ l.pallets.length + l.reservations)

/-- The free positions of a lane (section 5.2.1). -/
def Lane.free (l : Lane) : Nat := l.depth - l.pallets.length - l.reservations

/-- Puts a pallet at the front or the back of a list. -/
def putAt (placement : ListEnd) (id : Nat) (l : List Nat) : List Nat :=
  match placement with
  | .front => id :: l
  | .back => l ++ [id]

/-! ### Operations for the order unit (section 5.3) -/

/-- Takes a reservation in a lane (R98). -/
def reserve (l : LaneId) (s : State) : Except Status State :=
  if !(s.lane l).enabled then .error .notEnabled
  else if (s.lane l).isFull then .error .laneFull
  else .ok (s.modLane l fun x => { x with reservations := x.reservations + 1 })

/-- Gives a reservation in a lane up (R98). -/
def unreserve (l : LaneId) (s : State) : State := s.modLane l fun x => { x with reservations := x.reservations - 1 }

/-- Lifts a pallet for an order from the list it is expected in (R99). -/
def lift (id order : Nat) (source : Endpoint) (s : State) : Except Status State :=
  match s.pallet id with
  | none => .error .notFound
  | some x =>
    if x.place = source.place ∧ id ∈ s.listAt source then
      .ok ((s.modList source (·.filter (· != id))).modPallet id fun x => { x with place := .carried order })
    else .error .wrongLocation

/-- Sets a carried pallet down; `reserved` says that the order holds a reservation in that lane (R100). -/
def setDown (id order : Nat) (dest : Endpoint) (placement : ListEnd) (reserved : Bool) (s : State) : Except Status State :=
  match s.pallet id with
  | none => .error .notCarried
  | some x =>
    if x.place ≠ .carried order then .error .notCarried
    else if !s.endpointEnabled dest then .error .notEnabled
    else
      match dest with
      | .lane l =>
        if reserved then
          .ok (((unreserve l s).modList dest (putAt placement id)).modPallet id fun x => { x with place := dest.place })
        else if (s.lane l).isFull then .error .laneFull
        else .ok ((s.modList dest (· ++ [id])).modPallet id fun x => { x with place := dest.place })
      | .bay b =>
        if Config.truckPlaces ≤ (s.truck b).pallets.length then .error .full
        else .ok ((s.modList dest (· ++ [id])).modPallet id fun x => { x with place := dest.place })

/-! ### Retirement (R94) -/

/-- Retires one pallet: it leaves its list, its alarms are cleared and its record becomes free. -/
def retire (x : Pallet) (s : State) : State :=
  let s := match x.place.endpoint with
    | some ep => s.modList ep (·.filter (· != x.id))
    | none => s
  let s := if x.warned then clearAlarm .palletWarn x.id s else s
  let s := if x.held then clearAlarm .palletHeld x.id s else s
  { s with pallets := s.pallets.filter fun y => y.id != x.id }

/-! ### Temperatures (section 6.3) -/

/-- The accrual temperature of a room (R108). -/
def Room.accrual (r : Room) : Int :=
  if r.probeLost then min (r.temp + r.cfg.surcharge) Config.tempMax else r.temp

/-- The pallet at a place is WARNED from this exposure on: four times E is at or above three times B (R88, R112). -/
def warnReached (exposure budget : Nat) : Bool := decide (3 * budget ≤ 4 * exposure)

/-- The exposure after an expiry of a period of `secs` seconds at temperature `t` (R111). -/
def accrued (exposure secs : Nat) (limit t : Int) : Nat :=
  if t - limit ≤ 0 then exposure else min Config.exposureMax (exposure + (t - limit).toNat * secs)

end Sys2Proof.Machine
end

