-- ==== Sys2Proof/Machine/Orders.lean ====
section
/-! DEFINITION. The order unit's shared operations: the lead pallet, evaluation, reporting, and the notices that reach orders (sections 7.1
to 7.3). -/

namespace Sys2Proof.Machine

/-! ### Records -/

/-- The record in use that holds an order number. -/
def State.order (s : State) (n : Nat) : Option Order := s.orders.find? (·.num == n)

/-- An order that has not ended (section 7.1.1). -/
def OrderState.unfinished : OrderState → Bool
  | .done | .cancelled => false
  | _ => true

/-- The forklift holds an order in these states (section 7.1.3). -/
def OrderState.withFleet : OrderState → Bool
  | .dispatched | .carrying => true
  | _ => false

/-- The order has a lane or bay as its source or its destination. -/
def Order.uses (o : Order) (ep : Endpoint) : Bool := o.source == ep || o.dest == ep

/-- An unfinished order has the lane or bay as its source or destination (R124). -/
def State.inUseByOrder (s : State) (ep : Endpoint) : Bool := s.orders.any fun o => o.state.unfinished && o.uses ep

/-- The pallet is the named pallet of an unfinished SINGLE order (R124). -/
def State.namedByOrder (s : State) (id : Nat) : Bool :=
  s.orders.any fun o => o.state.unfinished && o.mode == .single && o.named == id

/-- The orders in use in ascending order number. -/
def State.ordersByNum (s : State) : List Order := sortBy (fun a b => decide (a.num < b.num)) s.orders

/-! ### The lead pallet (R119) -/

/-- The pallet at one end of a list. -/
def endOf (e : ListEnd) (l : List Nat) : Option Nat :=
  match e with
  | .front => l.head?
  | .back => l.getLast?

/-- The lead pallet of an order (R119). -/
def State.leadOf (s : State) (o : Order) : Option Nat :=
  if o.state = .carrying then o.carried
  else
    match o.mode with
    | .single => some o.named
    | _ => endOf o.pickEnd (s.listAt o.source)

/-- The order's lead pallet exists and is WARNED (R119). -/
def State.leadIsWarned (s : State) (o : Order) : Bool :=
  match s.leadOf o with
  | some id => ((s.pallet id).map (·.warned)).getD false
  | none => false

/-- The order with its lead warned flag worked out again (R119). -/
def State.withLead (s : State) (o : Order) : Order := { o with leadWarned := s.leadIsWarned o }

/-- The destination is a lane whose quarantine flag is set. -/
def State.toQuarantine (s : State) (o : Order) : Bool :=
  match o.dest with
  | .lane l => (s.lane l).quarantine
  | .bay _ => false

/-- A pallet is HELD and not RELEASED. -/
def State.isHeld (s : State) (id : Nat) : Bool := ((s.pallet id).map fun x => x.held && !x.released).getD false

/-! ### Evaluation (R120) -/

/-- The bay is open for loading or unloading: ACTIVE or OVERDUE. -/
def Grant.isOpen : Grant → Bool
  | .active | .overdue => true
  | _ => false

/-- An endpoint is a bay that is not ACTIVE or OVERDUE. -/
def State.closedBay (s : State) : Endpoint → Bool
  | .bay b => !(s.bay b).grant.isOpen
  | .lane _ => false

/-- What an evaluation finds. -/
inductive Finding where
  | exception (c : ExcCause)
  | waiting (r : WaitReason)
  | ready
  deriving DecidableEq, Repr

/-- The first check of R120 that applies. -/
def State.finding (s : State) (o : Order) : Finding :=
  let source := s.listAt o.source
  if o.mode = .single ∧ o.named ∉ source then .exception .palletGone
  else if o.mode ≠ .single ∧ source = [] then .exception .short
  else if ((s.leadOf o).map s.isHeld).getD false && !s.toQuarantine o then .exception .held
  else if s.closedBay o.source || s.closedBay o.dest then .waiting .bay
  else
    match o.dest with
    | .lane l =>
      if (s.lane l).isFull then .waiting .destFull
      else
        match (s.room (s.lane l).room).band with
        | .alarm | .critical => .waiting .destWarm
        | _ => .ready
    | .bay _ => .ready

/-- The order after an evaluation whose ready outcome is `readyAs` (R120), its lead warned flag worked out again (R119). -/
def State.evaluated (s : State) (readyAs : OrderState) (o : Order) : Order :=
  let o := s.withLead o
  match s.finding o with
  | .exception c => { o with state := .exception, cause := some c, reason := none }
  | .waiting r => { o with state := .waiting, reason := some r, cause := none }
  | .ready => { o with state := readyAs, reason := none, cause := none }

/-! ### Reporting (R122) -/

/-- Takes an order out of a bay's request record and granted orders; the others keep their order (R58). -/
def Bay.unlink (n : Nat) (b : Bay) : Bay :=
  { b with request := b.request.map fun q => { q with linked := q.linked.filter (· != n) }
           granted := b.granted.filter (· != n) }

/-- Takes an order out of every request and grant (R58, R122). -/
def unlinkOrder (n : Nat) (s : State) : State := allBays.foldl (fun s b => s.modBay b (Bay.unlink n)) s

/-- The change of an order is one R122 reports, its forms before and after the event being compared. DESIGN CHOICE: an order resumed that ends in
EXCEPTION with the cause it had is not changed (log entry 36). -/
def orderChanged (old new : Order) : Bool :=
  old.state != new.state || old.reason != new.reason || old.cause != new.cause || old.done != new.done

/-- The change of an order sets ORDERS on the FLEET port too (R122). -/
def fleetConcerned (old new : Order) : Bool :=
  (new.state == .ready && old.state != .ready) || (old.state.withFleet && !new.state.withFleet) ||
    (old.state == .carrying && new.state == .carrying && old.reason.isSome != new.reason.isSome)

/-- Sets the ORDERS flag for a change of an order (R122). -/
def flagOrder (old new : Order) (s : State) : State :=
  if orderChanged old new then setFlag (if fleetConcerned old new then [.dock, .fleet] else [.dock]) .orders s else s

/-- What follows an order's going to EXCEPTION, DONE or CANCELLED (R122): it is taken out of requests and grants, and an order that has
ended is no longer the source-of order of its list. -/
def settleOrder (new : Order) (s : State) : State :=
  match new.state with
  | .exception => unlinkOrder new.num s
  | .done | .cancelled => (unlinkOrder new.num s).setSourceOf new.source none
  | _ => s

/-- Replaces an order by its new form and reports the change (R122). An order that ends takes ended at. -/
def putOrder (old new : Order) (s : State) : State :=
  let new := if new.state.unfinished then new else { new with endedAt := new.endedAt.or (some s.clock) }
  settleOrder new (flagOrder old new { s with orders := replaceFirst (·.num == new.num) new s.orders })

/-! ### Notices (R121) -/

/-- The orders a notice evaluates by itself: WAITING, READY and DISPATCHED (R121). -/
def OrderState.evaluable : OrderState → Bool
  | .waiting | .ready | .dispatched => true
  | _ => false

/-- Evaluates one order on a notice: a DISPATCHED order that is ready stays DISPATCHED, any other becomes READY (R120).
An order in EXCEPTION is left whole. DESIGN CHOICE: so is its lead warned flag when its source list changes, for R119 names no moment there that
works the flag out; the flag then stays as it was until the next such moment, such as the resume (log entry 40). -/
def evaluateOnNotice (n : Nat) (s : State) : State :=
  match s.order n with
  | some o =>
    if o.state.evaluable then
      putOrder o (s.evaluated (if o.state = .dispatched then .dispatched else .ready) o) s
    else s
  | none => s

/-- Evaluates, one by one in ascending order number, the unfinished orders a notice concerns (R121). -/
def noticeOrders (concerned : Order → Bool) (s : State) : State :=
  (s.ordersByNum.filter concerned).foldl (fun s o => evaluateOnNotice o.num s) s

/-- A notice that lanes or truck lists, or a lane's reservations, depth, quarantine flag or room, have changed (R101, R121). -/
def noticeLists (eps : List Endpoint) (s : State) : State := noticeOrders (fun o => eps.any o.uses) s

/-- The outcome a bay notice gives the orders it names (R121). -/
inductive NamedOutcome where
  | exception (c : ExcCause)
  | waiting
  deriving DecidableEq, Repr

/-- An order named by a bay notice takes its outcome; a CARRYING order keeps its state (R121, R127). -/
def takeOutcome (out : NamedOutcome) (n : Nat) (s : State) : State :=
  match s.order n with
  | some o =>
    if o.state.evaluable then
      match out with
      | .exception c => putOrder o { o with state := .exception, cause := some c, reason := none } s
      | .waiting => putOrder o { o with state := .waiting, reason := some .bay, cause := none } s
    else s
  | none => s

/-- A CARRYING order takes or loses the waiting reason BAY as its destination bay is not open or open (R127). -/
def carryingNotice (b : BayId) (n : Nat) (s : State) : State :=
  match s.order n with
  | some o =>
    if o.state = .carrying ∧ o.dest = .bay b then
      putOrder o { o with reason := if (s.bay b).grant.isOpen then none else some .bay } s
    else s
  | none => s

/-- The notice of a bay's change of grant state (R29, R121, R127): the orders named take their outcome, then every order with the bay as
an endpoint is evaluated, or, while CARRYING, takes or loses its waiting reason. -/
def noticeBay (b : BayId) (named : List Nat) (out : NamedOutcome) (s : State) : State :=
  let s := named.foldl (fun s n => takeOutcome out n s) s
  (s.ordersByNum.filter (·.uses (.bay b))).foldl (fun s o => carryingNotice b o.num (evaluateOnNotice o.num s)) s

/-- The notice of an exposure expiry that marked the pallets `ids` (R113, R121): the lead warned flag of each unfinished order whose lead
is one of them is worked out again (R119), and those in WAITING, READY and DISPATCHED are evaluated. DESIGN CHOICE: where the lead has become WARNED
and HELD at one expiry, the evaluation puts the order into EXCEPTION and takes it out of its record before any queue is served (log entry 43). -/
def noticeMarked (ids : List Nat) (s : State) : State :=
  let leads (o : Order) : Bool := o.state.unfinished && ((s.leadOf o).map fun id => ids.contains id).getD false
  let s := { s with orders := s.orders.map fun o => if leads o then s.withLead o else o }
  noticeOrders leads s

/-- The orders waiting for a bay: unfinished, with the bay as an endpoint and the waiting reason BAY, those CARRYING only when the bay is
their destination (R123). -/
def State.waitingFor (s : State) (b : BayId) : List Order :=
  s.orders.filter fun o =>
    o.reason == some .bay &&
      ((o.state == .waiting && o.uses (.bay b)) || (o.state == .carrying && o.dest == .bay b))

/-- Order of R44: earlier created at first, then the lower order number. -/
def orderedFirst (a b : Order) : Bool :=
  decide (a.createdAt < b.createdAt) || (a.createdAt == b.createdAt && decide (a.num < b.num))

end Sys2Proof.Machine
end

