-- ==== Sys2Proof/Machine/Bays.lean ====
section
/-! DEFINITION. The bay controller's shared operations: shutter, seal and condition, the grant state machine, deadlines, lockouts,
requests (chapter 2; sections 3.2 and 3.3). -/

namespace Sys2Proof.Machine

/-! ### Shutter, seal, condition (section 2.2) -/

/-- The shutter counts as open when it is OPEN or MOVING (R25). -/
def Shutter.isOpen : Shutter → Bool
  | .open_ | .moving => true
  | _ => false

/-- The seal after a status, by the table of R26. -/
def nextSeal (before : Seal) (truck : Bool) (p leakLevel sealLevel : Nat) : Seal :=
  if !truck then .none
  else if sealLevel ≤ p then .sealed
  else
    match before with
    | .none | .seating => .seating
    | .sealed => if p < leakLevel then .leaking else .sealed
    | .leaking => .leaking

/-- The bay with its seal taken from a status: the seat timer starts when the seal becomes SEATING and is stopped when it leaves it
(R26). -/
def Bay.takeSeal (truck : Bool) (p now : Nat) (b : Bay) : Bay :=
  let new := nextSeal b.sealState truck p b.cfg.leakLevel b.cfg.sealLevel
  { b with pressure := p, sealState := new
           seatStart := if new = .seating then (if b.sealState = .seating then b.seatStart else some now) else none }

/-- When the seat timer runs out (R26). -/
def Bay.seatExpiry (b : Bay) : Option Nat := b.seatStart.map (· + b.cfg.seatTime)

/-- The node entry that a bay names is ONLINE. -/
def State.bayOnline (s : State) (b : Bay) : Bool :=
  match b.node with
  | some e => (s.node e).state == .online
  | none => false

/-- The condition a bay has (R27). -/
def State.conditionOf (s : State) (b : Bay) : Condition :=
  if !s.bayOnline b || b.shutter == .unknown then .lost
  else if b.shutter = .fault then .fault
  else
    match b.sealState with
    | .none => .noTruck
    | .seating => .seating
    | .sealed => .sealed
    | .leaking => .leaking

/-- Gives a bay a condition; a change sets BAYS (R27). -/
def setCondition (b : BayId) (c : Condition) (s : State) : State :=
  if (s.bay b).cond = c then s else setFlag [.dock] .bays (s.modBay b fun x => { x with cond := c })

/-- Derives a bay's condition again (R27). -/
def deriveCondition (b : BayId) (s : State) : State := setCondition b (s.conditionOf (s.bay b)) s

/-- A leaking seal and an open shutter hold together (R47). -/
def Bay.leaks (b : Bay) : Bool := b.sealState == .leaking && b.shutter.isOpen

/-- Raises or clears SEAL_LEAK as the pair comes to hold or stops holding, `before` saying whether it held (R47). -/
def checkLeak (b : BayId) (before : Bool) (s : State) : State :=
  match before, (s.bay b).leaks with
  | false, true => raiseAlarm .sealLeak b.val none s
  | true, false => clearAlarm .sealLeak b.val s
  | _, _ => s

/-! ### Reporting (R29) -/

/-- Reports a change of a bay's grant state: BAYS is set, and the order unit is told, with the orders named and their outcome (R29). The
load and the queue follow when the event settles (`settle`). -/
def reportBay (b : BayId) (named : List Nat) (out : NamedOutcome) (s : State) : State :=
  noticeBay b named out (setFlag [.dock] .bays s)

/-! ### The load of a room (sections 3.1 to 3.3) -/

/-- The entry of the load table for a condition (section 3.1). -/
def LoadTable.weight (t : LoadTable) : Condition → Nat
  | .sealed => t.sealed
  | .seating => t.seating
  | .leaking => t.leaking
  | .noTruck => t.noTruck
  | .fault => t.fault
  | .lost => t.lost

/-- A committed bay (section 3.2.1). -/
def Grant.committed : Grant → Bool
  | .granted | .active | .overdue | .forced => true
  | _ => false

/-- The enabled bays of a room, ascending. -/
def State.baysOf (s : State) (r : RoomId) : List BayId := allBays.filter fun b => (s.bay b).enabled && (s.bay b).room == r

/-- The committed bays of a room, ascending (R65). -/
def State.committedBays (s : State) (r : RoomId) : List BayId := (s.baysOf r).filter fun b => (s.bay b).grant.committed

/-- The weight of a bay: the load-table entry of its current condition (section 3.1). -/
def State.weightOf (s : State) (b : BayId) : Nat := s.loadTable.weight (s.bay b).cond

/-- The sum of the weights of a room's committed bays (R51). -/
def State.loadSum (s : State) (r : RoomId) : Nat := ((s.committedBays r).map s.weightOf).sum

/-- Brings a room's committed load up to date (R51). -/
def refreshLoad (r : RoomId) (s : State) : State := s.modLoad r fun x => { x with committed := s.loadSum r }

/-! ### Request records and their queue (sections 3.3 and 3.4) -/

/-- The order with this number has a WARNED lead (R59). -/
def State.orderWarned (s : State) (n : Nat) : Bool := ((s.order n).map (·.leadWarned)).getD false

/-- A record's urgent flag: at least one of its linked orders has a WARNED lead (R59). -/
def State.urgent (s : State) (q : Request) : Bool := q.linked.any s.orderWarned

/-- The urgent flag of a bay's request record, if it has one. -/
def State.urgentBay (s : State) (b : BayId) : Bool := ((s.bay b).request.map s.urgent).getD false

/-- Queue order (R60): urgent first, then the higher priority, then the lower arrival rank. -/
def State.aheadOf (s : State) (a b : BayId) : Bool :=
  match (s.bay a).request, (s.bay b).request with
  | some x, some y =>
    let ux := s.urgent x
    let uy := s.urgent y
    if ux != uy then ux else if x.priority != y.priority then decide (y.priority < x.priority) else decide (x.rank < y.rank)
  | some _, none => true
  | none, _ => false

/-- A room's grant queue from the head back: its REQUESTED bays (R56) in the order of R60. -/
def State.queueOf (s : State) (r : RoomId) : List BayId :=
  sortBy s.aheadOf ((s.baysOf r).filter fun b => (s.bay b).grant == .requested)

/-- The arrival rank of a record filed now: after every record in any queue of the part (R56). -/
def State.nextRank (s : State) : Nat := 1 + (allBays.map fun b => ((s.bay b).request.map (·.rank)).getD 0).foldl max 0

/-! ### Requests (R30, R31, R57) -/

/-- Any lockout cause stands. -/
def Causes.any (c : Causes) : Bool := c.master || c.node || c.room

/-- Files a request for a bay in NONE: refused with LOCKED_OUT while a cause stands, otherwise the bay becomes REQUESTED (R30, R56). -/
def fileRequest (b : BayId) (origin : Origin) (priority : Nat) (linked : List Nat) (s : State) : Status × State :=
  if (s.bay b).causes.any then (.lockedOut, s)
  else
    let q : Request := { origin := origin, priority := priority, linked := linked, rank := s.nextRank }
    (.ok, reportBay b [] .waiting (s.modBay b fun x => { x with grant := .requested, request := some q }))

/-- Files a request of origin ORDER for one order, by the bay's grant state (R30, R31, R57). -/
def fileForOrder (b : BayId) (n priority : Nat) (s : State) : Status × State :=
  let x := s.bay b
  if !x.enabled then (.notEnabled, s)
  else
    match x.grant with
    | .none => fileRequest b .order priority [n] s
    | .requested =>
      if x.causes.any then (.lockedOut, s)
      else
        match x.request with
        | some q =>
          if n ∈ q.linked then (.ok, s)
          else if Config.linkedMax ≤ q.linked.length then (.full, s)
          else
            (.ok, s.modBay b fun x =>
              { x with request := some { q with linked := q.linked ++ [n], priority := max q.priority priority } })
        | none => (.ok, s)
    | .granted =>
      if x.causes.any then (.lockedOut, s)
      else if n ∈ x.granted then (.ok, s)
      else if Config.linkedMax ≤ x.granted.length then (.full, s)
      else (.ok, s.modBay b fun x => { x with granted := x.granted ++ [n] })
    | .active | .overdue => (.ok, s)
    | .forced => (.state, s)

/-- The bay an endpoint is, if it is one. -/
def Endpoint.bay? : Endpoint → Option BayId
  | .bay b => some b
  | .lane _ => none

/-- Considers a re-request for a bay in NONE: a request of origin ORDER for up to four of the orders waiting for it (R44). -/
def reRequest (b : BayId) (s : State) : State :=
  let os := (sortBy orderedFirst (s.waitingFor b)).take Config.linkedMax
  if (s.bay b).causes.any || os.isEmpty then s
  else (fileRequest b .order ((os.map (·.priority)).foldl max 0) (os.map (·.num)) s).2

/-! ### Deadlines (R35) -/

/-- The deadline R35 gives a bay in GRANTED, ACTIVE or OVERDUE. -/
def Bay.deadlineNow (b : Bay) : Option Nat :=
  match b.grant with
  | .granted => b.grantedAt.map fun t => clampTime (t + b.cfg.grantWindow)
  | .active | .overdue =>
    b.openedAt.map fun t =>
      let limit := if b.limitKind = some .sealed then b.cfg.sealedLimit else b.cfg.unsealedLimit
      clampTime (min (t + limit + b.extTotal) (t + Config.openClamp))
  | _ => none

/-- The grant lapses (R33). -/
def lapseGrant (b : BayId) (s : State) : State :=
  let named := (s.bay b).granted
  reportBay b named (.exception .grantLapsed)
    (s.modBay b fun x => { x with grant := .none, grantedAt := none, deadline := none, granted := [] })

/-- An ACTIVE bay becomes OVERDUE (R36). -/
def becomeOverdue (b : BayId) (s : State) : State :=
  reportBay b [] .waiting (raiseAlarm .bayOverdue b.val none (s.modBay b fun x => { x with grant := .overdue }))

/-- An OVERDUE bay whose new deadline lies ahead becomes ACTIVE (R35, R37). -/
def returnActive (b : BayId) (s : State) : State :=
  reportBay b [] .waiting (clearAlarm .bayOverdue b.val (s.modBay b fun x => { x with grant := .active }))

/-- Recomputes a bay's deadline, with the outcome the new deadline gives (R35). -/
def recompute (b : BayId) (s : State) : State :=
  let s := s.modBay b fun x => { x with deadline := x.deadlineNow }
  let due := s.reached (s.bay b).deadline
  match (s.bay b).grant, due with
  | .granted, true => lapseGrant b s
  | .active, true => becomeOverdue b s
  | .overdue, false => returnActive b s
  | _, _ => s

/-! ### Grants, openings, forced openings (R32, R34, R40) -/

/-- A REQUESTED bay served by its room's queue becomes GRANTED (R32). -/
def grantBay (b : BayId) (s : State) : State :=
  let linked := ((s.bay b).request.map (·.linked)).getD []
  reportBay b [] .waiting
    (s.modBay b fun x =>
      let x := { x with grant := .granted, request := none, granted := linked, grantedAt := some s.clock }
      { x with deadline := x.deadlineNow })

/-- A GRANTED bay whose shutter is open becomes ACTIVE (R34). -/
def openBay (b : BayId) (s : State) : State :=
  reportBay b [] .waiting
    (s.modBay b fun x =>
      let x := { x with grant := .active, openedAt := some s.clock, extUsed := 0, extTotal := 0, grantedAt := none, granted := []
                        limitKind := some (if x.sealState = Seal.sealed then LimitKind.sealed else LimitKind.unsealed) }
      { x with deadline := x.deadlineNow })

/-- A bay in NONE or REQUESTED whose shutter is open becomes FORCED (R40). -/
def forceBay (b : BayId) (s : State) : State :=
  let named := ((s.bay b).request.map (·.linked)).getD []
  reportBay b named .waiting
    (raiseAlarm .bayForced b.val none (s.modBay b fun x => { x with grant := .forced, request := none }))

/-- Step 5 of R24: an open bay under the SEALED limit whose seal is not SEALED changes to UNSEALED (R38). -/
def sealLoss (b : BayId) (s : State) : State :=
  let x := s.bay b
  if x.grant.isOpen && x.limitKind == some .sealed && x.sealState != .sealed then
    recompute b (s.modBay b fun x => { x with limitKind := some .unsealed })
  else s

/-! ### Lockouts (R42, R43) -/

/-- The effect of a lockout cause on a bay that had none (R43). -/
def lockoutArises (b : BayId) (s : State) : State :=
  let x := s.bay b
  match x.grant with
  | .requested =>
    reportBay b ((x.request.map (·.linked)).getD []) .waiting (s.modBay b fun x => { x with grant := .none, request := none })
  | .granted =>
    reportBay b x.granted .waiting
      (s.modBay b fun x => { x with grant := .none, grantedAt := none, deadline := none, granted := [] })
  | _ => s

/-- Changes a bay's lockout causes: a change sets BAYS (R42); the first cause to stand takes a request or an unused grant back (R43); the
last to be cleared has a re-request considered for a bay in NONE (R44). -/
def setCauses (b : BayId) (f : Causes → Causes) (s : State) : State :=
  let old := (s.bay b).causes
  let new := f old
  if new = old then s
  else
    let s := setFlag [.dock] .bays (s.modBay b fun x => { x with causes := new })
    if !old.any && new.any then lockoutArises b s
    else if old.any && !new.any && (s.bay b).grant == .none then reRequest b s
    else s

/-- The NODE cause stands while the node is not ONLINE, or the shutter is FAULT or UNKNOWN (R42). -/
def State.nodeCause (s : State) (b : Bay) : Bool := !s.bayOnline b || b.shutter == .fault || b.shutter == .unknown

/-- The ROOM cause stands while the room is CRITICAL (R42). -/
def State.roomCause (s : State) (r : RoomId) : Bool := (s.room r).band == .critical

/-! ### The fields of a status, node losses (R24, R28, R45) -/

/-- Step 8 of R24: the local button (R45). -/
def takeButton (b : BayId) (count : Nat) (s : State) : State :=
  let x := s.bay b
  let s' := s.modBay b fun x => { x with button := some count }
  if x.button.isSome && x.button != some count && x.grant == .none then (fileRequest b .local_ 0 [] s').2 else s'

/-- The bay that names a node entry, if an enabled one does. -/
def State.bayOfNode (s : State) (e : EntryId) : Option BayId :=
  allBays.find? fun b => (s.bay b).enabled && (s.bay b).node == some e

/-- The fields of a bay STATUS: shutter code above 3 is FAULT, a truck flag other than 0x00 is a truck (R173, R174). -/
def shutterOfCode (c : Byte) : Shutter :=
  if c = 0 then .closed else if c = 1 then .moving else if c = 2 then .open_ else .fault

/-- The loss or disable of a BAY node (R28). -/
def loseBayNode (e : EntryId) (s : State) : State :=
  match s.bayOfNode e with
  | some b =>
    setCauses b (fun c => { c with node := true }) (setCondition b .lost (s.modBay b fun x => { x with held := true }))
  | none => s

/-- The seat timer runs out: a seal still SEATING becomes LEAKING; then the condition, the limit kind and SEAL_LEAK follow (R26). -/
def expireSeat (b : BayId) (s : State) : State :=
  let leaked := (s.bay b).leaks
  let s := s.modBay b fun x =>
    { x with sealState := if x.sealState = .seating then .leaking else x.sealState, seatStart := none }
  checkLeak b leaked (sealLoss b (deriveCondition b s))

/-! ### Lamp and lock (R46) -/

inductive Lamp where
  | red | green | amber
  deriving DecidableEq, Repr

/-- The lamp colour and whether the lock is engaged, by the grant state (R46). -/
def Grant.command : Grant → Lamp × Bool
  | .none | .requested => (.red, true)
  | .granted | .active => (.green, false)
  | .overdue | .forced => (.amber, false)

end Sys2Proof.Machine
end

