-- ==== Sys2Proof/Machine/Defrost.lean ====
section
/-! DEFINITION. The room temperature alarm, the coils and their waiting lists, the serving of a room's grant queue, and the settling of an
event (sections 1.2.6, 3.2 to 3.4, 4.1 to 4.4). -/

namespace Sys2Proof.Machine

/-! ### The room temperature alarm (R17, R18) -/

/-- The alarm a room calls for (R17). -/
def alarmFor (band : Band) (defrosting : Bool) : RoomAlarm :=
  match band, defrosting with
  | .normal, _ => .none
  | .warn, false => .warn
  | .warn, true => .none
  | .alarm, false => .alarm
  | .critical, false => .critical
  | .alarm, true | .critical, true => .warming

/-- The kind of alarm a recorded temperature alarm is, if it is one. -/
def RoomAlarm.kind : RoomAlarm → Option AlarmKind
  | .none => Option.none
  | .warn => some .roomWarn
  | .alarm => some .roomAlarm
  | .critical => some .roomCritical
  | .warming => some .defrostWarming

/-- Clears the recorded alarm of a room, if any (R17). -/
def clearRoomAlarm (r : RoomId) (s : State) : State :=
  match (s.room r).tempAlarm.kind with
  | some k => clearAlarm k r.val s
  | none => s

/-- Raises an alarm for a room with R as its value and records it (R17). -/
def recordRoomAlarm (r : RoomId) (a : RoomAlarm) (s : State) : State :=
  let s := match a.kind with
    | some k => raiseAlarm k r.val (some (s.room r).temp) s
    | none => s
  s.modRoom r fun x => { x with tempAlarm := a }

/-- Replaces the recorded alarm of a room where the band and the defrost state call for another (R17, R18). -/
def rechooseAlarm (r : RoomId) (s : State) : State :=
  let x := s.room r
  let a := alarmFor x.band x.defrosting
  if a = x.tempAlarm then s else recordRoomAlarm r a (clearRoomAlarm r s)

/-- The notice that the number of a room's defrosting coils is now `n`: the alarm is re-based when defrost in room changes (R18). -/
def noticeDefrosting (r : RoomId) (n : Nat) (s : State) : State :=
  if (s.room r).defrosting = decide (0 < n) then s
  else rechooseAlarm r (s.modRoom r fun x => { x with defrosting := decide (0 < n) })

/-! ### Coils of a room (sections 4.1.2, 4.1.3) -/

/-- A coil that counts as defrosting: DEFROST or OVERRUN. -/
def CoilState.defrosting : CoilState → Bool
  | .defrost | .overrun => true
  | _ => false

/-- A coil that receives frost: RUNNING or PENDING. -/
def CoilState.runs : CoilState → Bool
  | .running | .pending => true
  | _ => false

/-- The enabled coils of a room, ascending. -/
def State.coilsOf (s : State) (r : RoomId) : List CoilId := allCoils.filter fun c => (s.coil c).enabled && (s.coil c).room == r

/-- The number of a room's coils in DEFROST or OVERRUN. -/
def State.defrostingCount (s : State) (r : RoomId) : Nat := ((s.coilsOf r).filter fun c => (s.coil c).state.defrosting).length

/-- The effective concurrency of a room (R69). -/
def State.concurrencyOf (s : State) (r : RoomId) : Nat :=
  min (s.room r).cfg.concurrency (max 1 ((s.coilsOf r).length - 1))

/-- A coil's frost index is at or above its frost-alarm level: FROST_HIGH stands (section 4.1.1, R76). -/
def Coil.frostHigh (c : Coil) : Bool := decide (c.cfg.alarmLevel ≤ c.frost)

/-- The claim of a room's waiting list (R53, R75). -/
def State.claimOf (s : State) (r : RoomId) : Claim :=
  let w := (s.defrost r).waiting
  if w.isEmpty then .none else if w.any fun c => (s.coil c).frostHigh then .hard else .soft

/-- Gives a coil a state; the change sets DEFROST (R70). -/
def setCoilState (c : CoilId) (st : CoilState) (s : State) : State :=
  setFlag [.plant, .dock] .defrost (s.modCoil c fun x => { x with state := st })

/-- Reports a room's defrosting count and claim after a change of its coils (R70, R75): a changed count goes to the room monitor (R18) and
to the bay controller (R53), the claim to the bay controller. -/
def reportCoils (r : RoomId) (s : State) : State :=
  let n := s.defrostingCount r
  let s := if (s.load r).coils = n then s else (noticeDefrosting r n s).modLoad r fun x => { x with coils := n }
  let c := s.claimOf r
  (s.modDefrost r fun x => { x with claim := c }).modLoad r fun x => { x with claim := c }

/-- Takes a coil off its room's waiting list; the later coils keep their order (R79, R80). -/
def leaveWaiting (c : CoilId) (s : State) : State :=
  s.modDefrost (s.coil c).room fun x => { x with waiting := x.waiting.filter (· != c) }

/-- A coil leaves PENDING: wait start becomes absent, and DEFROST_DELAYED is cleared if its flag is set (R79, R80). -/
def endWait (c : CoilId) (s : State) : State :=
  let delayed := (s.coil c).delayed
  let s := (leaveWaiting c s).modCoil c fun x => { x with waitStart := none, waitExp := none, delayed := false }
  if delayed then clearAlarm .defrostDelayed c.val s else s

/-- A coil granted by an evaluation enters DEFROST (R79). -/
def grantCoil (c : CoilId) (s : State) : State :=
  setCoilState c .defrost
    ((endWait c s).modCoil c fun x =>
      { x with defrostStart := some s.clock, heatOpen := true, heatConfirmed := false
               defrostExp := some (s.clock + x.cfg.maxDefrost), heatExp := some (s.clock + x.cfg.heatTime) })

/-- The room's band is below ALARM. -/
def Band.belowAlarm : Band → Bool
  | .normal | .warn => true
  | _ => false

/-- One coil of the walk of R77. -/
def considerCoil (r : RoomId) (s : State) (c : CoilId) : State :=
  if decide (s.defrostingCount r < s.concurrencyOf r) && ((s.room r).band.belowAlarm || (s.coil c).frostHigh) then grantCoil c s
  else s

/-- Evaluates a room's waiting list (R77): the load check (R55), the walk from the earliest arrival, then one report (R70). -/
def evaluateWaiting (r : RoomId) (s : State) : State :=
  let w := (s.defrost r).waiting
  if decide ((s.load r).committed ≤ (s.load r).defrost) && !w.isEmpty then reportCoils r (w.foldl (considerCoil r) s) else s

/-! ### Serving a room's grant queue (section 3.4) -/

/-- The effective budget of a bay's request record (R54). -/
def State.budgetFor (s : State) (r : RoomId) (b : BayId) : Nat :=
  let x := s.load r
  if 1 ≤ x.coils ∨ x.claim = .hard ∨ (x.claim = .soft ∧ ¬ s.urgentBay b) then x.defrost else x.normal

/-- A bay of a room fits its effective budget (R61, step 4). -/
def State.fits (s : State) (r : RoomId) (b : BayId) : Bool := decide ((s.load r).committed + s.weightOf b ≤ s.budgetFor r b)

/-- Grants the head of a room's queue; the committed load rises by its weight (R61, step 6). -/
def grantHead (r : RoomId) (b : BayId) (s : State) : State := refreshLoad r (grantBay b s)

/-- Serves a room's grant queue (R61, R62), `n` heads at most: each grant takes one record off the queue, so the queue's length is enough.
A trigger that arises while serving runs is met by the serving itself. -/
def serveHeads (r : RoomId) : Nat → State → State
  | 0, s => s
  | n + 1, s =>
    match (s.queueOf r).head? with
    | none => s
    | some b =>
      if !s.fits r b then s
      else if decide ((s.load r).defrost < (s.load r).committed + s.weightOf b) && (s.load r).claim != .none then
        let s := evaluateWaiting r s
        if !s.fits r b then s else serveHeads r n (grantHead r b s)
      else serveHeads r n (grantHead r b s)

/-- Serves a room's grant queue (R61). -/
def serveQueue (r : RoomId) (s : State) : State := serveHeads r (s.queueOf r).length s

/-! ### Filings that are served at once (R30, R44, R57, R123) -/

/-- Files bay requests for a created or resumed order that waits with reason BAY, at each bay endpoint that is not open, source first, the
bay's queue being served after each (R30, R57, R123). The bay controller's answers change nothing of the order. -/
def fileBays (n : Nat) (s : State) : State :=
  match s.order n with
  | some o =>
    if o.state = .waiting ∧ o.reason = some .bay then
      ([o.source, o.dest].filterMap Endpoint.bay?).foldl
        (fun s b => if (s.bay b).grant.isOpen then s else serveQueue (s.bay b).room (fileForOrder b o.num o.priority s).2) s
    else s
  | none => s

/-- The ROOM cause of one bay follows its room's band; a re-request that this files is served at once (R30, R42, R44). -/
def followBand (r : RoomId) (s : State) (b : BayId) : State :=
  let t := setCauses b (fun c => { c with room := s.roomCause r }) s
  if (s.bay b).grant = .none ∧ (t.bay b).grant = .requested then serveQueue r t else t

/-- The notice of a room's band: its bays' ROOM causes follow it, bay by bay in ascending bay number (R16, R42). -/
def noticeBandBays (r : RoomId) (s : State) : State := (s.baysOf r).foldl (followBand r) s

/-! ### Settling an event (R51, R53, R55, R59, R63, R78) -/

/-- The claim has eased: to NONE, or from HARD to SOFT (R53). -/
def claimEased (before now : Claim) : Bool := decide (now.code < before.code)

/-- Since the state `s0`, a bay of room `r` has changed its grant state (R29), or its request record has changed its urgent flag (R59) or its
priority (R57). DESIGN CHOICE: the urgent flags compared are those before and after the whole event, so a record that an order would have made
urgent within it, before the order left the record for EXCEPTION, is not served for that (log entry 43). -/
def queueTouched (s0 s : State) (r : RoomId) : Bool :=
  allBays.any fun b =>
    let x := s0.bay b
    let y := s.bay b
    (x.room == r || y.room == r) &&
      (x.grant != y.grant || (x.request.isSome && y.request.isSome &&
        (s0.urgentBay b != s.urgentBay b || x.request.map (·.priority) != y.request.map (·.priority))))

/-- What an event that began in `s0` leaves to do in a room: the committed load is brought up to date and compared with that before the
event (R51); a fall of it, a change of the band (R16), or `evals`, has the waiting list evaluated (R78); and the queue is served where R63 or
R29 says so, or where `serves` says so. A restraint has eased when the event eased it before the evaluation, or when the evaluation eased it.
The evaluation is made before the serving; R62 makes the outcome the same in either order. -/
def settleRoom (s0 : State) (evals serves : List RoomId) (s : State) (r : RoomId) : State :=
  let s1 := refreshLoad r s
  let fell := decide ((s1.load r).committed < (s0.load r).committed)
  let s2 := if fell || (s0.room r).band != (s1.room r).band || evals.contains r then evaluateWaiting r s1 else s1
  if fell || decide ((s1.load r).coils < (s0.load r).coils) || claimEased (s0.load r).claim (s1.load r).claim ||
      claimEased (s1.load r).claim (s2.load r).claim || queueTouched s0 s2 r || serves.contains r then serveQueue r s2
  else s2

/-- Settles an event that began in `s0`, room by room: the rooms' loads and queues are separate (R50, R59). -/
def settle (s0 : State) (evals serves : List RoomId) (s : State) : State := allRooms.foldl (settleRoom s0 evals serves) s

/-! ### Coil timers and the COIL probe (R72, R80 to R83) -/

/-- The wait timer runs out (R80). -/
def expireWait (c : CoilId) (s : State) : State :=
  if (s.coil c).delayed then s
  else raiseAlarm .defrostDelayed c.val (some (s.coil c).frost) (s.modCoil c fun x => { x with delayed := true })

/-- The defrost timer runs out: the coil becomes OVERRUN (R81). -/
def expireDefrost (c : CoilId) (s : State) : State :=
  reportCoils (s.coil c).room (raiseAlarm .defrostOverrun c.val none (setCoilState c .overrun s))

/-- The heat check closes (R83). -/
def expireHeat (c : CoilId) (s : State) : State :=
  let x := s.coil c
  let s := s.modCoil c fun x => { x with heatOpen := false }
  if x.probe.isSome && !x.heatConfirmed then raiseAlarm .defrostNoHeat c.val x.temp s else s

/-- A good reading of a coil's COIL probe is recorded (R72) and, in DEFROST or OVERRUN, compared with the heat-confirm level (R82). -/
def takeCoilReading (c : CoilId) (t : Int) (s : State) : State :=
  let s := s.modCoil c fun x => { x with temp := some t }
  let x := s.coil c
  if x.state.defrosting && decide (x.cfg.heatLevel ≤ t) && !x.heatConfirmed then
    clearAlarm .defrostNoHeat c.val (s.modCoil c fun x => { x with heatConfirmed := true })
  else s

end Sys2Proof.Machine
end

