-- ==== Sys2Proof/Machine/BayStatus.lean ====
section
/-! DEFINITION. The close of a bay and the taking of a delivered bay status (R24, R39). -/

namespace Sys2Proof.Machine

/-! ### The close (R39) -/

/-- Passes the fall of a room's committed load on within an event (R29, R39, R51): the load is brought up to date, a load below the one it held has
the defrost controller evaluate the waiting list (R55), and the queue is served (R61). -/
def passFall (r : RoomId) (s : State) : State :=
  let s1 := refreshLoad r s
  serveQueue r (if (s1.load r).committed < (s.load r).committed then evaluateWaiting r s1 else s1)

/-- An ACTIVE, OVERDUE or FORCED bay whose shutter is CLOSED becomes NONE, and a re-request is considered (R39, R44). The fall of the load is
passed and the queue served before the re-request is made, as R39 has it; when the steps of R24 are done the room is settled as after any event. -/
def closeBay (b : BayId) (s : State) : State :=
  let was := (s.bay b).grant
  let s := s.modBay b fun x =>
    { x with grant := .none, openedAt := none, limitKind := none, deadline := none, extUsed := 0, extTotal := 0 }
  let s := if was = .overdue then clearAlarm .bayOverdue b.val s else s
  let s := if was = .forced then clearAlarm .bayForced b.val s else s
  reRequest b (passFall (s.bay b).room (reportBay b [] .waiting s))

/-- Step 4 of R24: the grant state follows the shutter. -/
def followShutter (b : BayId) (s : State) : State :=
  let x := s.bay b
  match x.grant with
  | .granted => if x.shutter.isOpen then openBay b s else s
  | .active | .overdue | .forced => if x.shutter = .closed then closeBay b s else s
  | .none | .requested => if x.shutter.isOpen then forceBay b s else s

/-! ### A delivered status (R24) -/

/-- A delivered bay status, taken by its steps (R24). -/
def takeBayStatus (b : BayId) (code pressure truck button : Byte) (s : State) : State :=
  let leaked := (s.bay b).leaks
  let s := s.modBay b fun x => { x with shutter := shutterOfCode code, held := false }
  let s := s.modBay b (Bay.takeSeal (truck != 0) pressure.toNat s.clock)
  let s := deriveCondition b s
  let s := followShutter b s
  let s := sealLoss b s
  let s := checkLeak b leaked s
  let s := setCauses b (fun c => { c with node := s.nodeCause (s.bay b) }) s
  takeButton b button.toNat s

end Sys2Proof.Machine
end

