-- ==== Sys2Proof/Machine/Rooms.lean ====
section
/-! DEFINITION. The room monitor's shared operations: calibration, mean, filter, band, PROBE_LOST, room updates, and what a probe payload and
the loss of a PROBE node do (chapter 1). -/

namespace Sys2Proof.Machine

/-! ### Arithmetic (R3, R10, R11, R12) -/

/-- `num / den` rounded to the nearest whole number, halves away from zero, for `den` above 0 (R3). -/
def roundAway (num den : Int) : Int :=
  if 0 ≤ num then (2 * num + den) / (2 * den) else -((2 * (-num) + den) / (2 * den))

/-- The temperature on the line through the two calibration points (R3), before any clamp. -/
def Calib.line (c : Calib) (count : Nat) : Int :=
  c.loRef + roundAway (((count : Int) - c.loCount) * (c.hiRef - c.loRef)) ((c.hiCount : Int) - c.loCount)

/-- A temperature clamped to its range (00_scope.md 2.2). -/
def clampTemp (t : Int) : Int := max Config.tempMin (min Config.tempMax t)

/-- The mean of some values, rounded to the nearest whole tenth, halves toward the higher value (R10). -/
def meanOf (l : List Int) : Int := (2 * l.sum + l.length) / (2 * l.length)

/-- One filter step with shift `k` and mean `m` (R11). -/
def filterStep (k : Nat) (m : Int) : Option Int → Int
  | none => 16 * m
  | some f => f + (16 * m - f) / 2 ^ k

/-- The reported temperature of a filter state: F / 16, halves toward the higher value (R12). -/
def reportedOf (f : Int) : Int := (f + 8) / 16

/-! ### Bands (R15) -/

/-- The lowest temperature of a band; NORMAL has none. -/
def RoomCfg.threshold (c : RoomCfg) : Band → Option Int
  | .normal => none
  | .warn => some c.warn
  | .alarm => some c.alarm
  | .critical => some c.critical

/-- The temperature `t` reaches the threshold of a band less `margin`; NORMAL qualifies always. -/
def RoomCfg.reaches (c : RoomCfg) (t margin : Int) (b : Band) : Bool :=
  match c.threshold b with
  | some x => decide (x - margin ≤ t)
  | none => true

/-- The bands from the highest down. -/
def bandsDown : List Band := [.critical, .alarm, .warn, .normal]

/-- The band rule (R15). -/
def RoomCfg.nextBand (c : RoomCfg) (band : Band) (t : Int) : Band :=
  let up := (bandsDown.find? (c.reaches t 0)).getD .normal
  if band.code < up.code then up
  else (bandsDown.find? fun b => decide (b.code ≤ band.code) && c.reaches t c.hysteresis b).getD .normal

/-! ### A change of band (R16, R17) -/

/-- The alarms of a band change (R17). -/
def alarmOnBand (r : RoomId) (s : State) : State :=
  let x := s.room r
  let a := alarmFor x.band x.defrosting
  if a = x.tempAlarm then (if a = .warming then recordRoomAlarm r a s else s) else recordRoomAlarm r a (clearRoomAlarm r s)

/-- An order has a lane of the room as its destination. -/
def State.destIn (s : State) (r : RoomId) (o : Order) : Bool :=
  match o.dest with
  | .lane l => (s.lane l).room == r
  | .bay _ => false

/-- Gives a room a band, with the effects of R16 and R17; the evaluation of the waiting list follows when the event settles. -/
def changeBand (r : RoomId) (new : Band) (s : State) : State :=
  let x := s.room r
  if new = x.band then s
  else
    let s := s.modRoom r fun x => { x with band := new }
    let s := if decide (x.band.code < new.code) || x.cfg.reportFalls then setFlag [.plant, .dock] .rooms s else s
    let s := noticeBandBays r (alarmOnBand r s)
    noticeOrders (s.destIn r) s

/-- Evaluates a room's band against its present R (R15). -/
def evaluateBand (r : RoomId) (s : State) : State :=
  let x := s.room r
  changeBand r (x.cfg.nextBand x.band x.temp) s

/-! ### PROBE_LOST (R13, R14) -/

/-- A room becomes PROBE_LOST (R13). -/
def loseRoom (r : RoomId) (s : State) : State :=
  if (s.room r).probeLost then s
  else raiseAlarm .roomNoProbe r.val (some (s.room r).temp) (s.modRoom r fun x => { x with probeLost := true })

/-- PROBE_LOST is cleared (R14). -/
def findRoom (r : RoomId) (s : State) : State :=
  if (s.room r).probeLost then clearAlarm .roomNoProbe r.val (s.modRoom r fun x => { x with probeLost := false }) else s

/-- The probe is an enabled AIR probe of the room. -/
def Probe.airOf (r : RoomId) (p : Probe) : Bool := p.enabled && p.kind == .air && p.owner == some (.room r)

/-- The enabled AIR probes of a room, ascending. -/
def State.airProbes (s : State) (r : RoomId) : List ProbeId := allProbes.filter fun n => (s.probe n).airOf r

/-- The calibrated values of a room's OK AIR probes. -/
def State.usable (s : State) (r : RoomId) : List Int :=
  ((s.airProbes r).filter fun n => (s.probe n).cond == .ok).filterMap fun n => (s.probe n).value

/-- Some AIR probe of the room is OK. -/
def State.hasUsable (s : State) (r : RoomId) : Bool := (s.airProbes r).any fun n => (s.probe n).cond == .ok

/-- A room that has no AIR probe in OK becomes PROBE_LOST (R13). -/
def loseIfNone (r : RoomId) (s : State) : State := if s.hasUsable r then s else loseRoom r s

/-! ### Room update (R9) -/

/-- Updates a room (R9). -/
def updateRoom (r : RoomId) (s : State) : State :=
  if !s.hasUsable r then loseRoom r s
  else
    let m := meanOf (s.usable r)
    let s := findRoom r s
    let s := s.modRoom r fun x =>
      let f := filterStep x.cfg.shift m x.filter
      { x with filter := some f, temp := reportedOf f }
    evaluateBand r s

/-! ### Readings (R4, R174) -/

/-- The validity bit of a channel in a probe payload. -/
def channelValid (payload : List Byte) (ch : Fin 4) : Bool := (payload.getD 0 0).getLsbD ch.val

/-- The count of a channel in a probe payload: 12 bits of its two bytes (R174). -/
def channelCount (payload : List Byte) (ch : Fin 4) : Nat :=
  nat2 (payload.getD (1 + 2 * ch.val) 0) (payload.getD (2 + 2 * ch.val) 0) % 4096

/-- A reading is good: its channel valid, its count neither 0 nor 4095 (R4). -/
def readingGood (valid : Bool) (count : Nat) : Bool := valid && count != 0 && count != 4095

/-- A probe record after a good reading of this count (R3, R4). -/
def Probe.takeGood (count : Nat) (p : Probe) : Probe :=
  match p.cal with
  | some c =>
    let t := c.line count
    { p with cond := .ok, value := some (clampTemp t), clamped := decide (clampTemp t ≠ t) }
  | none => { p with cond := .ok }

/-- The coil a COIL probe belongs to. -/
def Probe.coil (p : Probe) : Option CoilId :=
  match p.kind, p.owner with
  | .coil, some (.coil c) => some c
  | _, _ => none

/-- The room an AIR probe belongs to. -/
def Probe.room (p : Probe) : Option RoomId :=
  match p.kind, p.owner with
  | .air, some (.room r) => some r
  | _, _ => none

/-- A faulty reading (R4). -/
def takeFaulty (n : ProbeId) (s : State) : State :=
  if (s.probe n).cond = .fault then s
  else raiseAlarm .probeFault n.val none (s.modProbe n fun p => { p with cond := .fault })

/-- A good reading (R4), passed on for a COIL probe (R72, R82). -/
def takeGood (n : ProbeId) (count : Nat) (s : State) : State :=
  let was := (s.probe n).cond
  let s := s.modProbe n (Probe.takeGood count)
  let s := if was = .fault then clearAlarm .probeFault n.val s else s
  match (s.probe n).coil, (s.probe n).value with
  | some c, some t => takeCoilReading c t s
  | _, _ => s

/-- Takes a probe's reading out of its node's payload (R4). -/
def takeReading (payload : List Byte) (s : State) (n : ProbeId) : State :=
  let ch := (s.probe n).channel
  let count := channelCount payload ch
  if readingGood (channelValid payload ch) count then takeGood n count s else takeFaulty n s

/-- The enabled probes that name a node entry, ascending. -/
def State.probesOn (s : State) (e : EntryId) : List ProbeId := allProbes.filter fun n => (s.probe n).enabled && (s.probe n).node == some e

/-- The rooms that have an AIR probe among these probes, ascending. -/
def State.roomsOf (s : State) (l : List ProbeId) : List RoomId := allRooms.filter fun r => l.any fun n => (s.probe n).airOf r

/-- A delivered probe payload (R4, R9): all channels first, then each room once. -/
def takeProbeStatus (e : EntryId) (payload : List Byte) (s : State) : State :=
  let l := s.probesOn e
  (s.roomsOf l).foldl (fun s r => updateRoom r s) (l.foldl (takeReading payload) s)

/-- A probe becomes STALE by its node's loss or disable (R5). -/
def staleProbe (s : State) (n : ProbeId) : State :=
  let was := (s.probe n).cond
  let s := s.modProbe n fun p => { p with cond := .stale }
  if was = .fault then clearAlarm .probeFault n.val s else s

/-- The loss or disable of a PROBE node (R5). -/
def loseProbeNode (e : EntryId) (s : State) : State :=
  let l := (s.probesOn e).filter fun n => (s.probe n).cond != .stale
  (s.roomsOf l).foldl (fun s r => loseIfNone r s) (l.foldl staleProbe s)

end Sys2Proof.Machine
end

