-- ==== Sys2Proof/Machine/Line.lean ====
section
/-! DEFINITION. The line controller's shared operations: the frame check, the receiver, polls and passes, good replies and misses
(chapter 9; section 10.5.3). -/

namespace Sys2Proof.Machine

/-! ### The frame check (R154) -/

/-- One bit into the frame check register (R154). -/
def crcBit (reg : BitVec 16) (b : Bool) : BitVec 16 := if reg.msb != b then (reg <<< 1) ^^^ 0x1021 else reg <<< 1

/-- One byte into the frame check register, most significant bit first (R154). -/
def crcByte (reg : BitVec 16) (x : Byte) : BitVec 16 := [7, 6, 5, 4, 3, 2, 1, 0].foldl (fun r i => crcBit r (x.getLsbD i)) reg

/-- The frame check register after some bytes, from all ones (R154). -/
def crcOf (l : List Byte) : BitVec 16 := l.foldl crcByte 0xFFFF

/-! ### The receiver (R153) -/

/-- Where the receiver stands: waiting for a high line, waiting for a start, `left` samples before the middle of a start bit, or before
the middle of the next data bit with `got` bits taken. -/
inductive Rx where
  | waitHigh
  | waitStart
  | start (left : Nat)
  | data (got left : Nat) (byte : Byte)
  deriving DecidableEq, Repr

/-- One sample into the receiver, with the byte taken at it, if one is (R153). -/
def Rx.sample (high : Bool) : Rx → Rx × Option Byte
  | .waitHigh => (if high then .waitStart else .waitHigh, none)
  | .waitStart => (if high then .waitStart else .start 7, none)
  | .start (left + 1) => (.start left, none)
  | .start 0 => (if high then .waitStart else .data 0 15 0, none)
  | .data got (left + 1) byte => (.data got left byte, none)
  | .data got 0 byte =>
    let byte := if high then byte ||| (1#8 <<< got) else byte
    if got = 7 then (.waitHigh, some byte) else (.data (got + 1) 15 byte, none)

/-- The bytes a receiver takes from some samples, in order (R153). -/
def receiveFrom : Rx → List Bool → List Byte
  | _, [] => []
  | rx, b :: bs =>
    match rx.sample b with
    | (rx, some x) => x :: receiveFrom rx bs
    | (rx, none) => receiveFrom rx bs

/-- The bytes taken in a reply window (R153). The receiver begins by waiting for a high line (DEDUCED: log entry 18). -/
def receive (samples : List Bool) : List Byte := receiveFrom .waitHigh samples

/-! ### Frames (R152, R173) -/

/-- The length of a STATUS frame (R152). -/
def NodeKind.statusLength : NodeKind → Nat
  | .bay => 8
  | .probe => 13

def Lamp.code : Lamp → Nat
  | .red => 0 | .green => 1 | .amber => 2

/-- The lamp and lock command for a node entry: that of the enabled bay naming it, or RED with the lock engaged (R46, R152). -/
def State.commandFor (s : State) (e : EntryId) : Lamp × Bool :=
  match s.bayOfNode e with
  | some b => (s.bay b).grant.command
  | none => (.red, true)

/-- The command byte (R173). DESIGN CHOICE: bits 7 to 3, to which R173 gives no meaning, are 0 (log entry 38). -/
def commandByte (c : Lamp × Bool) : Byte := BitVec.ofNat 8 (c.1.code + if c.2 then 4 else 0)

/-- The POLL to a node entry without its check bytes (R152, R173). -/
def State.pollBody (s : State) (e : EntryId) : List Byte :=
  let x := s.node e
  let head : List Byte := [BitVec.ofNat 8 (x.address.getD 0), 0x01]
  if x.kind = some .bay then head ++ [commandByte (s.commandFor e)] else head

/-- The POLL with its two check bytes, high byte first (R154). -/
def State.pollFrame (s : State) (e : EntryId) : List Byte :=
  let body := s.pollBody e
  body ++ w2 (crcOf body).toNat

/-- A byte on the line, one entry for each bit time: a start bit low, the eight data bits with the least significant first, a stop bit high, and
no parity (R152). -/
def serialByte (x : Byte) : List Bool := false :: ([0, 1, 2, 3, 4, 5, 6, 7].map x.getLsbD ++ [true])

/-- Some bytes on the line, one after another (R152). -/
def serialBits (l : List Byte) : List Bool := l.flatMap serialByte

/-! ### Passes (R151, R152) -/

/-- Changes the line controller's own state. -/
def State.modLine (s : State) (f : Line → Line) : State := { s with line := f s.line }

/-- A POLL begins to an entry (R152), at the rate then in force (R150). -/
def beginPoll (e : EntryId) (s : State) : State :=
  s.modLine fun x =>
    { x with exchange := some { entry := e, rate := x.rate, poll := s.pollFrame e, phase := .sending }, crc := crcOf (s.pollBody e) }

/-- The enabled entries from number `n` on, ascending. -/
def State.enabledFrom (s : State) (n : Nat) : List EntryId := allEntries.filter fun e => decide (n ≤ e.val) && (s.node e).enabled

/-- The pass goes on at the first enabled entry from number `n` on, or ends (R151). DESIGN CHOICE: a pass that ends
at or after its next pass start leaves the line without an exchange, and the command LINE_PASS_START starts the next (log entry 42). -/
def walkFrom (n : Nat) (s : State) : State :=
  match (s.enabledFrom n).head? with
  | some e => beginPoll e s
  | none => s.modLine fun x => { x with exchange := none }

/-- A pass starts now (R151). -/
def startPass (s : State) : State := walkFrom 0 (s.modLine fun x => { x with nextPass := x.ms + x.period * 100 })

/-- A millisecond passes with no command waiting: the line controller's time goes on, unless the part is held in reset (DESIGN CHOICE: log
entry 3). -/
def idle (s : State) : Host.Outcome State Fault Refusal := takeEvent (fun s => s.modLine fun x => { x with ms := x.ms + 1 }) s

/-! ### Node states (R148) -/

/-- Gives a node entry a state; a change sets LINE (R148). -/
def setNodeState (e : EntryId) (st : NodeState) (s : State) : State :=
  if (s.node e).state = st then s else setFlag [.plant, .dock] .line (s.modNode e fun x => { x with state := st })

/-- The role a NODE_LOST entry takes (R136). -/
def holderOf : Option NodeKind → Role
  | some .bay => .dock
  | _ => .plant

/-- Tells the block a node entry serves that its node is lost or disabled (R5, R28). -/
def noticeLoss (e : EntryId) (s : State) : State :=
  match (s.node e).kind with
  | some .bay => loseBayNode e s
  | some .probe => loseProbeNode e s
  | none => s

/-! ### Ending an exchange (R155 to R157) -/

/-- Delivers a payload to the block its entry serves (R24, R4). -/
def deliver (e : EntryId) (payload : List Byte) (s : State) : State :=
  match (s.node e).kind with
  | some .bay =>
    match s.bayOfNode e with
    | some b => takeBayStatus b (payload.getD 0 0) (payload.getD 1 0) (payload.getD 2 0) (payload.getD 3 0) s
    | none => s
  | some .probe => takeProbeStatus e payload s
  | none => s

/-- The rooms whose queues a delivered bay status serves (R63). -/
def State.servedBy (s : State) (e : EntryId) : List RoomId :=
  match (s.node e).kind, s.bayOfNode e with
  | some .bay, some b => [(s.bay b).room]
  | _, _ => []

/-- A good reply (R156). -/
def goodReply (e : EntryId) (payload : List Byte) (s : State) : State :=
  let was := (s.node e).state
  let s1 := s.modNode e fun x => { x with misses := 0, payload := some payload }
  let s2 := if was = .unknown ∨ was = .lost then setNodeState e .online s1 else s1
  let s3 := if was = .lost then clearAlarm .nodeLost e.val s2 else s2
  settle s [] (s.servedBy e) (deliver e payload s3)

/-- A miss (R157). -/
def countMiss (e : EntryId) (s : State) : State :=
  let s1 := s.modNode e fun x => { x with misses := satAdd 15 x.misses 1 }
  let x := s1.node e
  if (x.state = .unknown ∨ x.state = .online) ∧ s.line.missLimit ≤ x.misses then
    settle s [] [] (noticeLoss e (raiseHeld .nodeLost e.val none (some (holderOf x.kind)) (setNodeState e .lost s1)))
  else s1

/-- A bad frame (R155). -/
def badFrame (e : EntryId) (s : State) : State := countMiss e (s.modNode e fun x => { x with bad := satAdd 65535 x.bad 1 })

/-- The length a reply from an entry must reach (R152). -/
def State.replyLength (s : State) (e : EntryId) : Nat := (((s.node e).kind).map NodeKind.statusLength).getD 0

/-- The judgement of a reply of the full length: its address byte is the reply form of the entry's address (bit 7 set, bit 6 clear), its kind is
STATUS and its check is good (R155, R173). -/
def State.isGood (s : State) (e : EntryId) (frame : List Byte) : Bool :=
  frame.getD 0 0 == BitVec.ofNat 8 (128 + (s.node e).address.getD 0) && frame.getD 1 0 == 0x02 && crcOf frame == 0

/-- The payload of a STATUS frame: between its kind byte and its check bytes (section 9.1.1). -/
def payloadIn (frame : List Byte) : List Byte := (frame.drop 2).take (frame.length - 4)

/-- Judges a reply that has reached its length (R155). -/
def judgeReply (e : EntryId) (frame : List Byte) (s : State) : State :=
  if s.isGood e frame then goodReply e (payloadIn frame) s else badFrame e s

/-- Ends the exchange with an entry, the register standing where the bytes taken left it, and goes on with the pass (R155). -/
def endExchange (e : EntryId) (taken : List Byte) (outcome : State → State) (s : State) : State :=
  walkFrom (e.val + 1) (outcome (s.modLine fun x => { x with exchange := none, crc := crcOf taken }))

/-- An exchange ends without outcome, its POLL cut off or its reply not taken, and the pass goes on (R149, R155). -/
def cutExchange (s : State) : State := s.modLine fun x => { x with exchange := none }

/-! ### Writing a node entry (R149) -/

/-- The actions of a node write, in the order R149 names them. -/
inductive NodeAction where
  | enabled | disabled | free
  deriving DecidableEq, Repr

def nodeActionOf : Nat → Option NodeAction
  | 0 => some .enabled | 1 => some .disabled | 2 => some .free | _ => none

/-- Another entry with a kind present holds the address. -/
def State.addressTaken (s : State) (e : EntryId) (a : Nat) : Bool :=
  allEntries.any fun x => decide (x ≠ e) && (s.node x).kind.isSome && (s.node x).address == some a

/-- An enabled probe or bay, by the kind the request writes, names the entry. -/
def State.entryNamed (s : State) (k : NodeKind) (e : EntryId) : Bool :=
  match k with
  | .probe => !(s.probesOn e).isEmpty
  | .bay => (s.bayOfNode e).isSome

/-- Clears NODE_LOST for an entry where it stands (R149). -/
def clearNodeLost (e : EntryId) (s : State) : State := clearAlarm .nodeLost e.val s

/-- Disables an enabled entry, with its notice (R149). -/
def disableNode (e : EntryId) (s : State) : State :=
  if (s.node e).enabled then noticeLoss e (clearNodeLost e (setNodeState e .disabled (s.modNode e fun x => { x with enabled := false })))
  else s

/-- Enables a disabled entry (R149). -/
def enableNode (e : EntryId) (s : State) : State :=
  if (s.node e).enabled then s else setNodeState e .unknown (s.modNode e fun x => { x with enabled := true, misses := 0 })

/-- Writes a new kind and address, where the entry had none or its address differs (R149). -/
def writeNode (k : NodeKind) (e : EntryId) (a : Nat) (s : State) : State :=
  let x := s.node e
  if x.kind = some k ∧ x.address = some a then s
  else
    let s := s.modNode e fun x => { x with kind := some k, address := some a, misses := 0, bad := 0, payload := none }
    let s := clearNodeLost e s
    if x.enabled then setNodeState e .unknown s else s

/-- Applies a node write whose checks have passed (R149). -/
def applyNode (k : NodeKind) (e : EntryId) (a : Nat) (act : NodeAction) (s : State) : State :=
  match act with
  | .enabled => enableNode e (writeNode k e a s)
  | .disabled => disableNode e (writeNode k e a s)
  | .free => (disableNode e s).modNode e fun _ => .reset

/-- The write disables the entry, frees it or changes its address: an exchange with it then ends (R149). -/
def State.endsExchange (s0 s : State) (e : EntryId) : Bool :=
  (s0.line.exchange.map (·.entry)) == some e && (!(s.node e).enabled || (s.node e).address != (s0.node e).address)

/-- A node write (R149): the new state and its status. -/
def setNode (k : NodeKind) (entry addr action : Nat) (s : State) : Status × State :=
  match idOf 48 entry, nodeActionOf action with
  | some e, some act =>
    let x := s.node e
    if act ≠ .free ∧ ¬ (1 ≤ addr ∧ addr ≤ 63) then (.range, s)
    else if x.kind.isSome && x.kind != some k then (.state, s)
    else if act ≠ .free ∧ s.addressTaken e addr then (.duplicate, s)
    else if (act = .free ∨ x.address ≠ some addr) ∧ s.entryNamed k e then (.inUse, s)
    else
      let s' := applyNode k e addr act s
      if s.endsExchange s' e then (.ok, walkFrom (e.val + 1) (settle s [] [] (cutExchange s'))) else (.ok, settle s [] [] s')
  | _, _ => (.range, s)

end Sys2Proof.Machine
end

