-- ==== Sys2Proof/Machine/Ports.lean ====
section
/-! DEFINITION. The port unit's shared operations: the request catalogue, the taking of a request, responses, the bits of a selection, the
reset of one port (chapter 10). -/

namespace Sys2Proof.Machine

/-! ### The request catalogue (section 10.2.1) -/

/-- The roles a request is open to. -/
def allRoles : List Role := [.plant, .dock, .fleet, .monitor]

/-- The catalogue: the roles that may make the request with a code, when the code is listed (R165). -/
def catalogue : Nat → Option (List Role)
  | 0x10 => some [.plant]  -- SET_PROBE
  | 0x11 => some [.plant]  -- DISABLE_PROBE
  | 0x12 => some [.plant]  -- SET_ROOM
  | 0x13 => some [.plant]  -- DISABLE_ROOM
  | 0x14 => some allRoles  -- READ_ROOM
  | 0x20 => some [.dock]  -- SET_BAY
  | 0x21 => some [.dock]  -- DISABLE_BAY
  | 0x22 => some [.dock]  -- BAY_REQUEST
  | 0x23 => some [.dock]  -- BAY_RELEASE
  | 0x24 => some [.dock]  -- BAY_EXTEND
  | 0x25 => some [.dock]  -- BAY_LOCKOUT
  | 0x26 => some allRoles  -- READ_BAY
  | 0x28 => some [.dock]  -- SET_LOAD_TABLE
  | 0x29 => some [.dock]  -- SET_ROOM_BUDGETS
  | 0x2A => some allRoles  -- READ_LOAD
  | 0x30 => some [.plant]  -- SET_COIL
  | 0x31 => some [.plant]  -- DISABLE_COIL
  | 0x32 => some [.plant]  -- SET_FROST_PERIOD
  | 0x33 => some [.plant]  -- DEFROST_REQUEST
  | 0x34 => some [.plant]  -- DEFROST_WITHDRAW
  | 0x35 => some [.plant]  -- DEFROST_END
  | 0x36 => some allRoles  -- READ_COIL
  | 0x40 => some [.dock]  -- RECEIVE
  | 0x41 => some [.dock]  -- ADMIT
  | 0x42 => some [.dock]  -- REMOVE
  | 0x43 => some [.dock]  -- RELEASE_HOLD
  | 0x44 => some [.dock]  -- DEPART
  | 0x45 => some [.dock]  -- SET_LANE
  | 0x46 => some [.dock]  -- DISABLE_LANE
  | 0x47 => some allRoles  -- READ_LANE
  | 0x48 => some allRoles  -- READ_PALLET
  | 0x4C => some [.dock]  -- SET_EXPOSURE_PERIOD
  | 0x4D => some allRoles  -- READ_EXPOSURE
  | 0x50 => some [.dock]  -- ORDER_CREATE
  | 0x51 => some [.dock]  -- ORDER_CANCEL
  | 0x52 => some [.dock]  -- ORDER_RESUME
  | 0x53 => some [.dock]  -- ORDER_CLEAR
  | 0x54 => some allRoles  -- READ_ORDER
  | 0x58 => some [.fleet]  -- FETCH_ORDER
  | 0x59 => some [.fleet]  -- PICK
  | 0x5A => some [.fleet]  -- DROP
  | 0x5B => some [.fleet]  -- ABANDON
  | 0x60 => some [.plant, .dock, .fleet]  -- ACK_ALARM
  | 0x61 => some allRoles  -- READ_ALARMS
  | 0x62 => some allRoles  -- READ_SUMMARY
  | 0x63 => some allRoles  -- SET_ATTENTION_MASK
  | 0x70 => some [.plant]  -- SET_PROBE_NODE
  | 0x71 => some [.dock]  -- SET_BAY_NODE
  | 0x72 => some [.plant]  -- SET_LINE
  | 0x73 => some [.plant]  -- LINE_RESTART
  | 0x74 => some allRoles  -- READ_NODE
  | 0x7E => some allRoles  -- READ_RESET_CAUSE
  | 0x7F => some allRoles  -- PORT_RESET
  | _ => none

/-! ### Taking a request (R162, R163, R171) -/

/-- A response without payload. -/
def Response.bare (st : Status) : Response := { status := st, payload := [] }

/-- The answer of a block that carries a request out or refuses it: the state after it, and the response. -/
abbrev Answer := State × Response

/-- A request refused, or carried out with nothing to return: no payload. -/
def answer (st : Status) (s : State) : Answer := (s, .bare st)

/-- A request carried out, with the payload of its response. -/
def answerWith (payload : List Byte) (s : State) : Answer := (s, { status := .ok, payload := payload })

/-- Places a response: the request in progress becomes absent, so that READY goes high (R162), and a response still held is discarded
(R163). -/
def respond (p : PortId) (r : Response) (s : State) : State := s.modPort p fun c => { c with request := none, response := some r }

/-- The payload of a request frame, from the bytes after its code: none where the frame is malformed (R162). -/
def framePayload : List Byte → Option (List Byte)
  | len :: rest => if len.toNat ≤ Config.payloadMax ∧ rest.length = len.toNat then some rest else none
  | [] => none

/-- The answer to a well-framed request of a code in the catalogue: the role is checked, then the payload's length, and the owning block
handles it (R162). -/
def handleRequest {α : Type} (roles : List Role) (parse : List Byte → Option α) (handle : α → State → Answer) (role : Role)
    (payload : List Byte) (s : State) : Answer :=
  if !roles.contains role then answer .role s
  else
    match parse payload with
    | none => answer .frame s
    | some x => handle x s

/-- Takes the request in progress on a port, when it is the request with this code (R162); the port unit's checks come first, then the
owning block's `handle`, and the response is placed. With no such request in progress nothing is taken (log entry 2). -/
def takeRequest {α : Type} (code : Nat) (parse : List Byte → Option α) (handle : α → State → Answer) (p : PortId) (s : State) :
    Host.Outcome State Fault Refusal :=
  takeEvent
    (fun s =>
      match (s.port p).request with
      | some (c :: rest) =>
        if c.toNat = code then
          let a := match framePayload rest with
            | none => answer .frame s
            | some payload => handleRequest ((catalogue code).getD []) parse handle (s.port p).role payload s
          respond p a.2 a.1
        else s
      | _ => s)
    s

/-! ### The reset of one port (R169, R131) -/

/-- Abandons an order in DISPATCHED: it is evaluated, READY if it is ready (R131). -/
def abandonOrder (n : Nat) (s : State) : State :=
  match s.order n with
  | some o => if o.state = .dispatched then putOrder o (s.evaluated .ready o) s else s
  | none => s

/-- Abandons every order in DISPATCHED, in ascending order number (R131). -/
def abandonAll (s : State) : State :=
  (s.ordersByNum.filter fun o => o.state == .dispatched).foldl (fun s o => abandonOrder o.num s) s

/-- A port context after a port reset (R147, R169). -/
def PortCtx.resetPort (c : PortCtx) : PortCtx := { c with response := none, flags := 0, mask := 0xFF }

/-- The port reset of one port (R169). -/
def resetPort (p : PortId) (s : State) : State :=
  let s1 := s.modPort p PortCtx.resetPort
  if (s.port p).role = .fleet then settle s [] [] (abandonAll s1) else s1

/-! ### The bits of a selection (R161 to R163) -/

/-- A byte's bits, most significant first. -/
def bitsOf (x : Byte) : List Bool := [7, 6, 5, 4, 3, 2, 1, 0].map x.getLsbD

/-- A byte from eight bits, most significant first. -/
def byteOf (b7 b6 b5 b4 b3 b2 b1 b0 : Bool) : Byte :=
  BitVec.ofNat 8 (b7.toNat * 128 + b6.toNat * 64 + b5.toNat * 32 + b4.toNat * 16 + b3.toNat * 8 + b2.toNat * 4 + b1.toNat * 2 + b0.toNat)

/-- The whole bytes of a run of bits; bits after the last whole byte are discarded (R162). -/
def bytesOf : List Bool → List Byte
  | b7 :: b6 :: b5 :: b4 :: b3 :: b2 :: b1 :: b0 :: rest => byteOf b7 b6 b5 b4 b3 b2 b1 b0 :: bytesOf rest
  | _ => []

/-- The bytes of a response frame: the status byte, the length byte and the payload (R170). -/
def Response.frame (r : Response) : List Byte := w1 r.status.code ++ w1 r.payload.length ++ r.payload

/-- The first `n` bits SDO drives: the frame of the response held, if one is, and 0x00 after it (R163). -/
def sdoBits (r : Option Response) (n : Nat) : List Bool :=
  let bits := ((r.map fun r => r.frame.flatMap bitsOf).getD []).take n
  bits ++ List.replicate (n - bits.length) false

/-- Every byte of the response has been clocked out by `n` clocks. -/
def Response.consumedBy (r : Response) (n : Nat) : Bool := decide (8 * r.frame.length ≤ n)

/-- The request a selection carries: its whole bytes, unless there is none or the first is 0x00 (R162). -/
def requestOf (sdi : List Bool) : Option (List Byte) :=
  match bytesOf sdi with
  | [] => none
  | c :: rest => if c = 0 then none else some (c :: rest)

end Sys2Proof.Machine
end

