-- ==== Sys2Proof/Machine/AlarmCommands.lean ====
section
/-! DEFINITION. The requests on the alarm list, the summary flags and the attention mask (chapter 8). -/

namespace Sys2Proof.Machine

/-! ### ACK_ALARM (R140) -/

/-- The roles an alarm of a kind and subject is routed to: for NODE_LOST those of its entry, if there is one (R136, R140). -/
def State.routesOf (s : State) (k : AlarmKind) (subject : Nat) : Option (List Role) :=
  if k = .nodeLost then (s.alarm k subject).map (·.roles) else some k.routes

/-- The role passes the check of R140: a NODE_LOST without entry passes it. -/
def State.mayAck (s : State) (role : Role) (k : AlarmKind) (subject : Nat) : Bool :=
  match s.routesOf k subject with
  | some l => l.contains role
  | none => true

/-- The list with the entry for a kind and subject acknowledged (R140). -/
def ackList (k : AlarmKind) (subject : Nat) (l : List AlarmEntry) : List AlarmEntry :=
  l.filterMap fun e => if e.isFor k subject then e.acked else some e

/-- Acknowledges an entry on behalf of a port (R140, R142). -/
def ackEntry (p : PortId) (e : AlarmEntry) (s : State) : State :=
  setAlarmsButOn p e.roles { s with alarms := ackList e.kind e.subject s.alarms }

def handleAckAlarm (p : PortId) (q : Nat × Nat) (s : State) : Answer :=
  match alarmKindOf q.1 with
  | none => answer .range s
  | some k =>
    if q.2 < k.subjects.1 ∨ k.subjects.2 < q.2 then answer .range s
    else if !s.mayAck (s.port p).role k q.2 then answer .role s
    else
      match s.alarm k q.2 with
      | none => answer .notFound s
      | some e =>
        if e.state = .activeAcked then answer .state s
        else answerWith (optional 1 (e.acked.map fun x => w1 x.state.code)) (ackEntry p e s)

/-- ACK_ALARM (R140). -/
def execAckAlarm (p : PortId) (s : State) : Host.Outcome State Fault Refusal := takeRequest 0x60 parse14 (handleAckAlarm p) p s

/-! ### READ_ALARMS (R143, R172) -/

/-- The age at last raised (R143, R172). -/
def AlarmEntry.age (e : AlarmEntry) : Nat := min 65535 (e.last - e.first)

/-- The 16 bytes of an alarm entry (R172). DESIGN CHOICE: bits 6 to 4 of byte 4, to which R172 gives no meaning, are 0 (log entry 38). -/
def AlarmEntry.bytes (e : AlarmEntry) : List Byte :=
  w4 (e.kind.code * 134217728 + e.subject) ++
    w1 (e.state.code + 4 * e.kind.severity + if e.value.isSome then 128 else 0) ++ w1 e.repeats ++ w4 e.last ++ w2 e.age ++
    i4 (e.value.getD 0)

/-- A port's view of the list (R143). -/
def State.viewOf (s : State) (p : PortId) : List AlarmEntry := alarmView (s.port p).role s.alarms

def handleReadAlarms (p : PortId) (start : Nat) (s : State) : Answer :=
  if 63 < start then answer .range s
  else
    let v := s.viewOf p
    (s, { status := if v.length ≤ start then .none else .ok,
          payload := w1 v.length ++ w1 s.alarms.length ++ w2 s.overflow ++ ((v.drop start).take 15).flatMap AlarmEntry.bytes })

/-- READ_ALARMS (R143). -/
def execReadAlarms (p : PortId) (s : State) : Host.Outcome State Fault Refusal := takeRequest 0x61 parse1 (handleReadAlarms p) p s

/-! ### READ_SUMMARY and SET_ATTENTION_MASK (R145, R146) -/

/-- The READ_SUMMARY response (R145). -/
def State.summaryBytes (s : State) (p : PortId) : List Byte :=
  let c := s.port p
  let v := s.viewOf p
  [c.flags] ++ w2 s.overflow ++ w1 v.length ++ w1 (v.filter fun e => e.state == .activeUnacked).length ++ [c.mask]

def handleReadSummary (p : PortId) (_ : Unit) (s : State) : Answer :=
  answerWith (s.summaryBytes p) (s.modPort p fun c => { c with flags := 0 })

/-- READ_SUMMARY (R145). -/
def execReadSummary (p : PortId) (s : State) : Host.Outcome State Fault Refusal :=
  takeRequest 0x62 parse0 (handleReadSummary p) p s

def handleSetAttentionMask (p : PortId) (m : Nat) (s : State) : Answer :=
  let s' := s.modPort p fun c => { c with mask := BitVec.ofNat 8 m }
  answerWith [(s'.port p).mask, (s'.port p).flags] s'

/-- SET_ATTENTION_MASK (R146). -/
def execSetAttentionMask (p : PortId) (s : State) : Host.Outcome State Fault Refusal :=
  takeRequest 0x63 parse1 (handleSetAttentionMask p) p s

end Sys2Proof.Machine
end

