-- ==== Sys2Proof/Machine/BayCommands.lean ====
section
/-! DEFINITION. The requests and the timer expiries of the bays (chapter 2). -/

namespace Sys2Proof.Machine

/-! ### SET_BAY (R21, R22) -/

/-- Every setting of a bay within its range, the leak level below the seal level (section 2.1, R21). -/
def BayCfg.inRange (c : BayCfg) : Bool :=
  decide (10 ≤ c.grantWindow ∧ c.grantWindow ≤ 600) && decide (60 ≤ c.sealedLimit ∧ c.sealedLimit ≤ 7200) &&
    decide (10 ≤ c.unsealedLimit ∧ c.unsealedLimit ≤ 1800) && decide (1 ≤ c.sealLevel ∧ c.sealLevel ≤ 255) &&
    decide (c.leakLevel < c.sealLevel) && decide (5 ≤ c.seatTime ∧ c.seatTime ≤ 120)

/-- Another enabled bay names the node entry. -/
def State.nodeTaken (s : State) (b : BayId) (e : EntryId) : Bool :=
  allBays.any fun x => decide (x ≠ b) && (s.bay x).enabled && (s.bay x).node == some e

/-- The checks of R21 after the ranges: the status of the first that fails. -/
def State.bayRefusal (s : State) (b : BayId) (r : RoomId) (e : EntryId) : Option Status :=
  if (s.node e).kind ≠ some .bay then some .notFound
  else if s.nodeTaken b e then some .duplicate
  else if !(s.room r).enabled then some .notEnabled
  else none

/-- Enables a bay in its start state (R21). -/
def startBay (b : BayId) (r : RoomId) (e : EntryId) (cfg : BayCfg) (s : State) : State :=
  setFlag [.dock] .bays
    (s.modBay b fun _ =>
      { Bay.reset with enabled := true, room := r, node := some e, cfg := cfg,
                       causes := { master := false, node := true, room := s.roomCause r } })

/-- A bay takes a new room: the ROOM cause follows its band (R22). -/
def moveBayRoom (b : BayId) (r : RoomId) (s : State) : State :=
  if (s.bay b).room = r then s
  else setCauses b (fun c => { c with room := s.roomCause r }) (s.modBay b fun x => { x with room := r })

/-- A bay takes a new node entry: it returns to the start state for what its node reports, and the NODE cause stands (R22). -/
def moveBayNode (b : BayId) (e : EntryId) (s : State) : State :=
  if (s.bay b).node = some e then s
  else
    setCauses b (fun c => { c with node := true })
      (setCondition b .lost
        (s.modBay b fun x =>
          { x with node := some e, shutter := .unknown, held := false, pressure := 0, sealState := .none, seatStart := none,
                   button := none }))

/-- A changed grant window or open limit has the deadline it applies to recomputed (R22, R35). -/
def retimeBay (b : BayId) (old : BayCfg) (s : State) : State :=
  let x := s.bay b
  match x.grant with
  | .granted => if x.cfg.grantWindow ≠ old.grantWindow then recompute b s else s
  | .active | .overdue =>
    if x.cfg.sealedLimit ≠ old.sealedLimit ∨ x.cfg.unsealedLimit ≠ old.unsealedLimit then recompute b s else s
  | _ => s

/-- A changed seat time re-times a running seat timer; an expiry at or before now is taken at once (R22, R26). -/
def reseatBay (b : BayId) (old : BayCfg) (s : State) : State :=
  let x := s.bay b
  if x.cfg.seatTime ≠ old.seatTime && s.reached x.seatExpiry then expireSeat b s else s

/-- Applies a SET_BAY to an enabled bay (R22). DESIGN CHOICE: the settings are written together and take effect in the order room, node entry,
deadline, seat timer, so that a BAY_OVERDUE is entered ahead of a SEAL_LEAK (log entry 32). -/
def changeBay (b : BayId) (r : RoomId) (e : EntryId) (cfg : BayCfg) (s : State) : State :=
  let old := (s.bay b).cfg
  let s1 := moveBayNode b e (moveBayRoom b r (s.modBay b fun x => { x with cfg := cfg }))
  settle s [] [] (reseatBay b old (retimeBay b old s1))

/-- A room or a node entry other than the bay's own is asked for (R22). -/
def Bay.moves (x : Bay) (r : RoomId) (e : EntryId) : Bool := x.room != r || x.node != some e

/-- The truck list of a bay holds a pallet, or an unfinished order has the bay as an endpoint (R22, R23). -/
def State.bayHolds (s : State) (b : BayId) : Bool := !(s.truck b).pallets.isEmpty || s.inUseByOrder (.bay b)

def handleSetBay (q : BayReq) (s : State) : Answer :=
  match idOf 32 q.bay, idOf 8 q.room, idOf 48 q.node with
  | some b, some r, some e =>
    if !q.cfg.inRange then answer .range s
    else
      match s.bayRefusal b r e with
      | some st => answer st s
      | none =>
        if !(s.bay b).enabled then answer .ok (startBay b r e q.cfg s)
        else if (s.bay b).moves r e && (s.bay b).grant != .none then answer .state s
        else if (s.bay b).moves r e && s.bayHolds b then answer .inUse s
        else answer .ok (changeBay b r e q.cfg s)
  | _, _, _ => answer .range s

/-- SET_BAY (R21, R22). -/
def execSetBay (p : PortId) (s : State) : Host.Outcome State Fault Refusal := takeRequest 0x20 parseBayReq handleSetBay p s

/-! ### DISABLE_BAY (R23) -/

/-- A bay record after DISABLE_BAY: reset values, but its settings, room and node entry (R23). -/
def Bay.disabled (x : Bay) : Bay := { Bay.reset with room := x.room, node := x.node, cfg := x.cfg }

def handleDisableBay (n : Nat) (s : State) : Answer :=
  match idOf 32 n with
  | none => answer .range s
  | some b =>
    if !(s.bay b).enabled then answer .state s
    else if (s.bay b).grant ≠ .none then answer .state s
    else if s.bayHolds b then answer .inUse s
    else answer .ok (setFlag [.dock] .bays (s.modBay b Bay.disabled))

/-- DISABLE_BAY (R23). -/
def execDisableBay (p : PortId) (s : State) : Host.Outcome State Fault Refusal := takeRequest 0x21 parse1 handleDisableBay p s

/-! ### BAY_REQUEST (R30) -/

/-- The response of BAY_REQUEST: the grant state the bay has after the filing (R30). -/
def grantAnswer (st : Status) (b : BayId) (s : State) : Answer := (s, { status := st, payload := w1 (s.bay b).grant.code })

def handleBayRequest (q : Nat × Nat) (s : State) : Answer :=
  match idOf 32 q.1 with
  | none => answer .range s
  | some b =>
    if 3 < q.2 then answer .range s
    else if !(s.bay b).enabled then answer .notEnabled s
    else if (s.bay b).grant ≠ .none then answer .state s
    else if (s.bay b).causes.any then grantAnswer .lockedOut b s
    else grantAnswer .ok b (settle s [] [] (fileRequest b .dock q.2 [] s).2)

/-- BAY_REQUEST (R30). -/
def execBayRequest (p : PortId) (s : State) : Host.Outcome State Fault Refusal := takeRequest 0x22 parse11 handleBayRequest p s

/-! ### BAY_RELEASE (R41) -/

/-- Gives up a bay's request or unused grant, its orders going to EXCEPTION (R41). -/
def releaseBay (b : BayId) (s : State) : State :=
  let x := s.bay b
  let named := if x.grant = .requested then (x.request.map (·.linked)).getD [] else x.granted
  reportBay b named (.exception .released)
    (s.modBay b fun x => { x with grant := .none, request := none, grantedAt := none, deadline := none, granted := [] })

def handleBayRelease (n : Nat) (s : State) : Answer :=
  match idOf 32 n with
  | none => answer .range s
  | some b =>
    if !(s.bay b).enabled then answer .notEnabled s
    else if (s.bay b).grant = .requested ∨ (s.bay b).grant = .granted then answer .ok (settle s [] [] (releaseBay b s))
    else answer .state s

/-- BAY_RELEASE (R41). -/
def execBayRelease (p : PortId) (s : State) : Host.Outcome State Fault Refusal := takeRequest 0x23 parse1 handleBayRelease p s

/-! ### BAY_EXTEND (R37) -/

/-- Extends the opening of an ACTIVE or OVERDUE bay (R37). -/
def extendBay (b : BayId) (secs : Nat) (s : State) : State :=
  recompute b (s.modBay b fun x => { x with extUsed := x.extUsed + 1, extTotal := x.extTotal + secs })

def handleBayExtend (q : Nat × Nat) (s : State) : Answer :=
  match idOf 32 q.1 with
  | none => answer .range s
  | some b =>
    if ¬ (1 ≤ q.2 ∧ q.2 ≤ 3600) then answer .range s
    else if !(s.bay b).enabled then answer .notEnabled s
    else if !(s.bay b).grant.isOpen then answer .state s
    else if (s.bay b).causes.any then answer .lockedOut s
    else if 3 ≤ (s.bay b).extUsed then answer .limit s
    else
      let s' := settle s [] [] (extendBay b q.2 s)
      answerWith (w4 ((s'.bay b).deadline.getD 0)) s'

/-- BAY_EXTEND (R37). -/
def execBayExtend (p : PortId) (s : State) : Host.Outcome State Fault Refusal := takeRequest 0x24 parse12 handleBayExtend p s

/-! ### BAY_LOCKOUT (R42) -/

def handleBayLockout (q : Nat × Nat) (s : State) : Answer :=
  match idOf 32 q.1, yesNoOf q.2 with
  | some b, some set =>
    if !(s.bay b).enabled then answer .notEnabled s
    else answer .ok (settle s [] [] (setCauses b (fun c => { c with master := set }) s))
  | _, _ => answer .range s

/-- BAY_LOCKOUT (R42). -/
def execBayLockout (p : PortId) (s : State) : Host.Outcome State Fault Refusal := takeRequest 0x25 parse11 handleBayLockout p s

/-! ### READ_BAY (R48) -/

/-- The settings of a bay in a response. -/
def BayCfg.bytes (c : BayCfg) : List Byte :=
  w2 c.grantWindow ++ w2 c.sealedLimit ++ w2 c.unsealedLimit ++ w1 c.sealLevel ++ w1 c.leakLevel ++ w2 c.seatTime

/-- A list of order numbers in a response. -/
def orderList (l : List Nat) : List Byte := w1 l.length ++ l.flatMap w2

/-- A request record in a READ_BAY response: origin, priority, urgency and linked orders (R48). -/
def Request.bytes (q : Request) (urgent : Bool) : List Byte :=
  w1 q.origin.code ++ w1 q.priority ++ yn urgent ++ orderList q.linked

/-- The READ_BAY record (R48). -/
def State.bayRecord (s : State) (b : BayId) : List Byte :=
  let x := s.bay b
  payloadOf
    [yn x.enabled ++ w1 x.room.val ++ w1 ((x.node.map (·.val)).getD 0) ++ x.cfg.bytes,
     w1 x.shutter.code ++ yn x.held ++ w1 x.pressure ++ w1 x.sealState.code ++ optional 4 (x.seatStart.map w4) ++ w1 x.cond.code,
     w1 x.grant.code ++ w1 x.causes.code,
     optional 4 (x.request.map fun q => q.bytes (s.urgent q)),
     orderList x.granted,
     optional 4 (x.grantedAt.map w4) ++ optional 4 (x.openedAt.map w4) ++ optional 1 (x.limitKind.map fun k => w1 k.code) ++
       optional 4 (x.deadline.map w4),
     w1 x.extUsed ++ w2 x.extTotal ++ optional 1 (x.button.map w1) ++ w1 (s.truck b).pallets.length]

def handleReadBay (n : Nat) (s : State) : Answer :=
  match idOf 32 n with
  | none => answer .range s
  | some b => answerWith (s.bayRecord b) s

/-- READ_BAY (R48). -/
def execReadBay (p : PortId) (s : State) : Host.Outcome State Fault Refusal := takeRequest 0x26 parse1 handleReadBay p s

/-! ### Expiries (R26, R33, R36) -/

/-- The seat timer of a bay runs out (R26). -/
def execSeatTimerExpiry (b : BayId) (s : State) : Host.Outcome State Fault Refusal :=
  takeWhen (fun s => s.reached (s.bay b).seatExpiry) (fun s => settle s [] [] (expireSeat b s)) s

/-- The grant window of a GRANTED bay runs out (R33). -/
def execGrantLapse (b : BayId) (s : State) : Host.Outcome State Fault Refusal :=
  takeWhen (fun s => (s.bay b).grant == .granted && s.reached (s.bay b).deadline) (fun s => settle s [] [] (lapseGrant b s)) s

/-- The open limit of an ACTIVE bay runs out (R36). -/
def execOpenLimitExpiry (b : BayId) (s : State) : Host.Outcome State Fault Refusal :=
  takeWhen (fun s => (s.bay b).grant == .active && s.reached (s.bay b).deadline)
    (fun s => settle s [] [] (becomeOverdue b s)) s

end Sys2Proof.Machine
end

