-- ==== Sys2Proof/Machine/CoilCommands.lean ====
section
/-! DEFINITION. The requests and the timer expiries of the defrost controller (chapter 4). -/

namespace Sys2Proof.Machine

/-! ### SET_COIL (R67, R68) -/

/-- Every setting of a coil within its range (section 4.1.1, R67). -/
def CoilCfg.inRange (c : CoilCfg) : Bool :=
  decide (1 ≤ c.requestLevel ∧ c.requestLevel ≤ 65534) && decide (2 ≤ c.alarmLevel ∧ c.alarmLevel ≤ 65535) &&
    decide (60 ≤ c.maxDefrost ∧ c.maxDefrost ≤ 7200) && decide (60 ≤ c.maxWait ∧ c.maxWait ≤ 14400) &&
    decide (30 ≤ c.heatTime ∧ c.heatTime ≤ 1800) && decide (Config.tempMin ≤ c.heatLevel ∧ c.heatLevel ≤ Config.tempMax)

/-- Enables a coil (R67); its room's waiting list is then evaluated. -/
def startCoil (c : CoilId) (r : RoomId) (cfg : CoilCfg) (s : State) : State :=
  settle s [r] [] (setCoilState c .running (s.modCoil c fun _ => { Coil.reset with enabled := true, room := r, cfg := cfg }))

/-- The due flag follows the frost-request level; becoming set it sets DEFROST (R68, R76). -/
def followDue (c : CoilId) (s : State) : State :=
  let x := s.coil c
  let due := decide (x.cfg.requestLevel ≤ x.frost)
  let s' := s.modCoil c fun x => { x with due := due }
  if due && !x.due then setFlag [.plant, .dock] .defrost s' else s'

/-- FROST_HIGH follows a new frost-alarm level, `stood` saying whether the index stood at or above the old one (R68). -/
def followFrostAlarm (c : CoilId) (stood : Bool) (s : State) : State :=
  let x := s.coil c
  match stood, x.frostHigh with
  | false, true => raiseAlarm .frostHigh c.val (some x.frost) s
  | true, false => clearAlarm .frostHigh c.val s
  | _, _ => s

/-- A changed maximum wait moves a PENDING coil's wait expiry (R68, R80). -/
def moveWait (c : CoilId) (old : CoilCfg) (s : State) : State :=
  let x := s.coil c
  match x.state, x.waitStart with
  | .pending, some t =>
    if x.cfg.maxWait = old.maxWait then s
    else
      let moved := clampTime (t + x.cfg.maxWait)
      let s := s.modCoil c fun x => { x with waitExp := some moved }
      if moved ≤ s.clock then expireWait c s
      else if x.delayed then clearAlarm .defrostDelayed c.val (s.modCoil c fun x => { x with delayed := false })
      else s
  | _, _ => s

/-- A changed maximum defrost time moves the defrost expiry of a coil in DEFROST; one at or before now is taken at once (R68, R81). -/
def moveDefrost (c : CoilId) (old : CoilCfg) (s : State) : State :=
  let x := s.coil c
  match x.state, x.defrostStart with
  | .defrost, some t =>
    if x.cfg.maxDefrost = old.maxDefrost then s
    else
      let moved := clampTime (t + x.cfg.maxDefrost)
      let s := s.modCoil c fun x => { x with defrostExp := some moved }
      if moved ≤ s.clock then expireDefrost c s else s
  | _, _ => s

/-- A changed heat-confirm time moves the heat-confirm expiry while the heat check is open; one at or before now is taken at once (R68,
R83). -/
def moveHeat (c : CoilId) (old : CoilCfg) (s : State) : State :=
  let x := s.coil c
  match x.heatOpen, x.defrostStart with
  | true, some t =>
    if x.cfg.heatTime = old.heatTime then s
    else
      let moved := clampTime (t + x.cfg.heatTime)
      let s := s.modCoil c fun x => { x with heatExp := some moved }
      if moved ≤ s.clock then expireHeat c s else s
  | _, _ => s

/-- Applies new settings to an enabled coil (R68). -/
def changeCoil (c : CoilId) (cfg : CoilCfg) (s : State) : State :=
  let x := s.coil c
  let s1 := followFrostAlarm c x.frostHigh (followDue c (s.modCoil c fun x => { x with cfg := cfg }))
  let s2 := moveHeat c x.cfg (moveDefrost c x.cfg (moveWait c x.cfg s1))
  if x.state = .pending then settle s [x.room] [] (reportCoils x.room s2) else settle s [] [] s2

def handleSetCoil (q : CoilReq) (s : State) : Answer :=
  match idOf 16 q.coil, idOf 8 q.room with
  | some c, some r =>
    if !q.cfg.inRange then answer .range s
    else if q.cfg.alarmLevel ≤ q.cfg.requestLevel then answer .range s
    else if (s.coil c).enabled then
      if (s.coil c).room ≠ r then answer .state s
      else if !(s.room r).enabled then answer .notEnabled s
      else answer .ok (changeCoil c q.cfg s)
    else if !(s.room r).enabled then answer .notEnabled s
    else if 4 ≤ (s.coilsOf r).length then answer .full s
    else answer .ok (startCoil c r q.cfg s)
  | _, _ => answer .range s

/-- SET_COIL (R67, R68). -/
def execSetCoil (p : PortId) (s : State) : Host.Outcome State Fault Refusal := takeRequest 0x30 parseCoilReq handleSetCoil p s

/-! ### DISABLE_COIL (R69) -/

/-- Disables a coil (R69). -/
def disableCoil (c : CoilId) (s : State) : State :=
  let x := s.coil c
  let s1 := if x.state = .pending then endWait c s else s
  let s2 := if x.frostHigh then clearAlarm .frostHigh c.val s1 else s1
  let s3 := setCoilState c .disabled (s2.modCoil c fun x => { Coil.reset with room := x.room, cfg := x.cfg })
  settle s [] [] (reportCoils x.room s3)

def handleDisableCoil (n : Nat) (s : State) : Answer :=
  match idOf 16 n with
  | none => answer .range s
  | some c =>
    if !(s.coil c).enabled then answer .state s
    else if 0 < s.defrostingCount (s.coil c).room then answer .inUse s
    else if allProbes.any fun n => (s.probe n).enabled && (s.probe n).coil == some c then answer .inUse s
    else answer .ok (disableCoil c s)

/-- DISABLE_COIL (R69). -/
def execDisableCoil (p : PortId) (s : State) : Host.Outcome State Fault Refusal := takeRequest 0x31 parse1 handleDisableCoil p s

/-! ### SET_FROST_PERIOD (R73) -/

def handleSetFrostPeriod (secs : Nat) (s : State) : Answer :=
  if 1 ≤ secs ∧ secs ≤ 60 then answer .ok { s with frostTimer := { s.frostTimer with period := secs } } else answer .range s

/-- SET_FROST_PERIOD (R73). -/
def execSetFrostPeriod (p : PortId) (s : State) : Host.Outcome State Fault Refusal :=
  takeRequest 0x32 parse2 handleSetFrostPeriod p s

/-! ### DEFROST_REQUEST (R78) -/

/-- A RUNNING coil becomes PENDING at the end of its room's waiting list (R78, R80). -/
def joinWaiting (c : CoilId) (s : State) : State :=
  let r := (s.coil c).room
  let s1 := s.modDefrost r fun x => { x with waiting := x.waiting ++ [c] }
  let s2 := s1.modCoil c fun x =>
    { x with waitStart := some s.clock, waitExp := some (clampTime (s.clock + x.cfg.maxWait)), delayed := false }
  reportCoils r (setCoilState c .pending s2)

def handleDefrostRequest (n : Nat) (s : State) : Answer :=
  match idOf 16 n with
  | none => answer .range s
  | some c =>
    match (s.coil c).state with
    | .disabled => answer .notEnabled s
    | .running =>
      let s' := settle s [(s.coil c).room] [] (joinWaiting c s)
      answerWith (w1 (s'.coil c).state.code) s'
    | _ => answer .state s

/-- DEFROST_REQUEST (R78). -/
def execDefrostRequest (p : PortId) (s : State) : Host.Outcome State Fault Refusal :=
  takeRequest 0x33 parse1 handleDefrostRequest p s

/-! ### DEFROST_WITHDRAW (R80) -/

/-- A PENDING coil gives its request up (R80). -/
def withdrawCoil (c : CoilId) (s : State) : State := reportCoils (s.coil c).room (setCoilState c .running (endWait c s))

def handleDefrostWithdraw (n : Nat) (s : State) : Answer :=
  match idOf 16 n with
  | none => answer .range s
  | some c =>
    match (s.coil c).state with
    | .disabled => answer .notEnabled s
    | .pending => answer .ok (settle s [] [] (withdrawCoil c s))
    | _ => answer .state s

/-- DEFROST_WITHDRAW (R80). -/
def execDefrostWithdraw (p : PortId) (s : State) : Host.Outcome State Fault Refusal :=
  takeRequest 0x34 parse1 handleDefrostWithdraw p s

/-! ### DEFROST_END (R84) -/

inductive EndOutcome where
  | termTemp | termTime | aborted
  deriving DecidableEq, Repr

def endOutcomeOf : Nat → Option EndOutcome
  | 0 => some .termTemp | 1 => some .termTime | 2 => some .aborted | _ => none

/-- A coil in DEFROST or OVERRUN returns to RUNNING (R84). DESIGN CHOICE: the end is reported before the evaluation that follows it, which
reports its own grants (log entry 34). -/
def endDefrost (c : CoilId) (out : EndOutcome) (s : State) : State :=
  let s := s.modCoil c fun x =>
    { x with defrostStart := none, heatOpen := false, heatConfirmed := false, defrostExp := none, heatExp := none }
  let s := clearAlarm .defrostNoHeat c.val (clearAlarm .defrostOverrun c.val s)
  let s := if out = .aborted then s
    else clearAlarm .frostHigh c.val (s.modCoil c fun x => { x with frost := 0, due := false })
  reportCoils (s.coil c).room (setCoilState c .running s)

def handleDefrostEnd (q : Nat × Nat) (s : State) : Answer :=
  match idOf 16 q.1, endOutcomeOf q.2 with
  | some c, some out =>
    match (s.coil c).state with
    | .disabled => answer .notEnabled s
    | .running | .pending => answer .state s
    | .defrost | .overrun =>
      let s' := settle s [(s.coil c).room] [] (endDefrost c out s)
      answerWith (w2 (s'.coil c).frost) s'
  | _, _ => answer .range s

/-- DEFROST_END (R84). -/
def execDefrostEnd (p : PortId) (s : State) : Host.Outcome State Fault Refusal := takeRequest 0x35 parse11 handleDefrostEnd p s

/-! ### READ_COIL (R85) -/

/-- The settings of a coil in a response. -/
def CoilCfg.bytes (c : CoilCfg) : List Byte :=
  w2 c.requestLevel ++ w2 c.alarmLevel ++ w2 c.maxDefrost ++ w2 c.maxWait ++ w2 c.heatTime ++ i2 c.heatLevel

/-- The four calibration values in a response. -/
def Calib.bytes (c : Calib) : List Byte := w2 c.loCount ++ w2 c.hiCount ++ i2 c.loRef ++ i2 c.hiRef

/-- A COIL probe in a READ_COIL response (R85): 16 bytes. DESIGN CHOICE: its parts stand in the order in which R85 names them, the condition
before the calibration points; the field table of section 1.1.1 has these before the condition (log entry 39). -/
def Probe.coilBytes (n : ProbeId) (p : Probe) : List Byte :=
  w1 n.val ++ w1 ((p.node.map (·.val)).getD 0) ++ w1 p.channel.val ++ w1 p.cond.code ++
    ((p.cal.map Calib.bytes).getD (List.replicate 8 0)) ++ optional 2 (p.value.map i2) ++ yn p.clamped

/-- The time of the next frost period expiry (R73). -/
def State.frostExpiry (s : State) : Nat := s.frostTimer.start + s.frostTimer.length

/-- The READ_COIL record (R85). -/
def State.coilRecord (s : State) (c : CoilId) : List Byte :=
  let x := s.coil c
  let d := s.defrost x.room
  payloadOf
    ([yn x.enabled ++ w1 x.room.val ++ x.cfg.bytes,
      w1 x.state.code ++ w2 x.frost ++ yn x.due,
      optional 4 (x.waitStart.map w4) ++ optional 4 (x.defrostStart.map w4) ++ yn x.delayed ++ yn x.heatOpen ++ yn x.heatConfirmed,
      optional 16 (x.probe.map fun n => (s.probe n).coilBytes n),
      w2 d.carry ++ w1 d.claim.code] ++
      listItems (d.waiting.map fun c => w1 c.val) ++
      [w1 (s.defrostingCount x.room) ++ w1 (s.concurrencyOf x.room),
       w2 s.frostTimer.period ++ w4 s.frostExpiry])

def handleReadCoil (n : Nat) (s : State) : Answer :=
  match idOf 16 n with
  | none => answer .range s
  | some c => answerWith (s.coilRecord c) s

/-- READ_COIL (R85). -/
def execReadCoil (p : PortId) (s : State) : Host.Outcome State Fault Refusal := takeRequest 0x36 parse1 handleReadCoil p s

/-! ### The frost period expiry (R74 to R76) -/

/-- A room's ingress (R74): the weights of its enabled bays whose shutter is open, and its carry. -/
def State.ingress (s : State) (r : RoomId) : Nat :=
  (((s.baysOf r).filter fun b => (s.bay b).shutter.isOpen).map s.weightOf).sum + (s.defrost r).carry

/-- The running coils of a room, ascending (section 4.1.2). -/
def State.runningCoils (s : State) (r : RoomId) : List CoilId := (s.coilsOf r).filter fun c => (s.coil c).state.runs

/-- What the running coil at place `k` of `n` receives (R75). -/
def frostShare (base ingress n k : Nat) : Nat := base + ingress / n + if k < ingress % n then 1 else 0

/-- A coil receives frost, saturating (R75), and is compared with its levels (R76). -/
def giveFrost (c : CoilId) (amount : Nat) (s : State) : State :=
  let x := s.coil c
  let s := s.modCoil c fun x => { x with frost := satAdd Config.frostMax x.frost amount }
  followFrostAlarm c x.frostHigh (followDue c s)

/-- Distributes a room's ingress (R75), with the crossings of R76 and the report of the claim. -/
def distribute (r : RoomId) (s : State) : State :=
  let i := s.ingress r
  let running := s.runningCoils r
  let base := (s.room r).cfg.baseFrost
  if running.isEmpty then s.modDefrost r fun x => { x with carry := min Config.frostMax i }
  else
    let s := running.zipIdx.foldl (fun s ck => giveFrost ck.1 (frostShare base i running.length ck.2) s) s
    let s := s.modDefrost r fun x => { x with carry := 0 }
    if (s.defrost r).waiting.isEmpty then s else reportCoils r s

/-- A PENDING coil of the room has crossed its alarm level since `s0` (R76). -/
def crossed (s0 s : State) (r : RoomId) : Bool :=
  (s0.coilsOf r).any fun c => (s0.coil c).state == .pending && !(s0.coil c).frostHigh && (s.coil c).frostHigh

/-- The frost period expiry (R73, R74). -/
def expireFrost (s : State) : State :=
  let s1 := { s with frostTimer := { s.frostTimer with start := s.frostExpiry, length := s.frostTimer.period } }
  let rooms := allRooms.filter fun r => (s.room r).enabled
  let s2 := rooms.foldl (fun s r => distribute r s) s1
  settle s (rooms.filter fun r => crossed s s2 r) [] s2

/-- The frost period timer expires (R74). -/
def execFrostPeriodExpiry (s : State) : Host.Outcome State Fault Refusal :=
  takeWhen (fun s => decide (s.frostExpiry ≤ s.clock)) expireFrost s

/-! ### Coil timers (R80, R81, R83) -/

/-- The wait timer of a PENDING coil expires (R80). -/
def execWaitTimerExpiry (c : CoilId) (s : State) : Host.Outcome State Fault Refusal :=
  takeWhen (fun s => (s.coil c).state == .pending && s.reached (s.coil c).waitExp) (expireWait c) s

/-- The defrost timer of a coil in DEFROST expires (R81). -/
def execDefrostTimerExpiry (c : CoilId) (s : State) : Host.Outcome State Fault Refusal :=
  takeWhen (fun s => (s.coil c).state == .defrost && s.reached (s.coil c).defrostExp)
    (fun s => settle s [] [] (expireDefrost c s)) s

/-- The heat-confirm timer of a coil in DEFROST or OVERRUN expires (R83). -/
def execHeatConfirmExpiry (c : CoilId) (s : State) : Host.Outcome State Fault Refusal :=
  takeWhen (fun s => (s.coil c).state.defrosting && (s.coil c).heatOpen && s.reached (s.coil c).heatExp) (expireHeat c) s

end Sys2Proof.Machine
end

