-- ==== Sys2Proof/Machine/LineCommands.lean ====
section
/-! DEFINITION. The requests on the sensor line and the line controller's own events (chapter 9). -/

namespace Sys2Proof.Machine

/-! ### SET_PROBE_NODE and SET_BAY_NODE (R149) -/

/-- A node write as a request: its kind is fixed by the request (R149). -/
def handleSetNode (k : NodeKind) (q : Nat × Nat × Nat) (s : State) : Answer :=
  let a := setNode k q.1 q.2.1 q.2.2 s
  answer a.1 a.2

/-- SET_PROBE_NODE (R149). -/
def execSetProbeNode (p : PortId) (s : State) : Host.Outcome State Fault Refusal :=
  takeRequest 0x70 parse111 (handleSetNode .probe) p s

/-- SET_BAY_NODE (R149). -/
def execSetBayNode (p : PortId) (s : State) : Host.Outcome State Fault Refusal :=
  takeRequest 0x71 parse111 (handleSetNode .bay) p s

/-! ### SET_LINE (R150) -/

def handleSetLine (q : Nat × Nat × Nat × Nat) (s : State) : Answer :=
  match lineRateOf q.1 with
  | none => answer .range s
  | some rate =>
    if (1 ≤ q.2.1 ∧ q.2.1 ≤ 50) ∧ (1 ≤ q.2.2.1 ∧ q.2.2.1 ≤ 15) ∧ (1 ≤ q.2.2.2 ∧ q.2.2.2 ≤ 100) then
      answer .ok (s.modLine fun x => { x with rate := rate, window := q.2.1, missLimit := q.2.2.1, period := q.2.2.2 })
    else answer .range s

/-- SET_LINE (R150). -/
def execSetLine (p : PortId) (s : State) : Host.Outcome State Fault Refusal := takeRequest 0x72 parse1111 handleSetLine p s

/-! ### LINE_RESTART (R158) -/

/-- Zeroes the misses and the bad frames of every entry (R158). -/
def zeroCounts (s : State) : State :=
  allEntries.foldl (fun s e => s.modNode e fun x => { x with misses := 0, bad := 0 }) s

def handleLineRestart (_ : Unit) (s : State) : Answer := answer .ok (startPass (zeroCounts (cutExchange s)))

/-- LINE_RESTART (R158). -/
def execLineRestart (p : PortId) (s : State) : Host.Outcome State Fault Refusal := takeRequest 0x73 parse0 handleLineRestart p s

/-! ### READ_NODE (R159) -/

/-- A last payload as nine bytes (R171). -/
def nineBytes (l : List Byte) : List Byte := (l ++ List.replicate 9 0).take 9

/-- The READ_NODE record (R159). DESIGN CHOICE: while a pass has overrun its next pass start, the time until it is 0 (log entry 37).
DESIGN CHOICE: the line rate, reply window, miss limit and pass period in force are the settings, from the SET_LINE that writes them on, though an
exchange in progress goes on with the rate and window it began with and the next pass start was fixed with the period before (log entry 41). -/
def State.nodeRecord (s : State) (e : EntryId) : List Byte :=
  let x := s.node e
  let l := s.line
  optional 1 (x.kind.map fun k => w1 k.code) ++ optional 1 (x.address.map w1) ++ yn x.enabled ++ w1 x.state.code ++ w1 x.misses ++
    w2 x.bad ++ optional 9 (x.payload.map nineBytes) ++ w1 l.rate.code ++ w1 l.window ++ w1 l.missLimit ++ w1 l.period ++
    w2 (l.nextPass - l.ms)

def handleReadNode (n : Nat) (s : State) : Answer :=
  match idOf 48 n with
  | none => answer .range s
  | some e => answerWith (s.nodeRecord e) s

/-- READ_NODE (R159). -/
def execReadNode (p : PortId) (s : State) : Host.Outcome State Fault Refusal := takeRequest 0x74 parse1 handleReadNode p s

/-! ### Line events (R151 to R157) -/

/-- The time of a pass start has come and the last pass has ended: a pass starts (R151). -/
def execLinePassStart (s : State) : Host.Outcome State Fault Refusal :=
  takeWhen (fun s => s.line.exchange.isNone) (fun s => startPass (s.modLine fun x => { x with ms := max x.ms x.nextPass })) s

/-- The exchange whose POLL is being sent. -/
def State.sending (s : State) : Option Exchange := s.line.exchange.filter fun x => x.phase == .sending

/-- The last stop bit of a POLL has been sent, TX having driven its bytes: the reply window opens, and the frame check register is set to all
ones (R152, R154). -/
def execPollSent (s : State) : Host.Outcome State Fault Refusal :=
  takeEvent
    (fun s =>
      match s.sending with
      | some x => s.modLine fun l =>
          { l with exchange := some { x with phase := .window (l.ms + l.window) }, crc := 0xFFFF, tx := serialBits x.poll }
      | none => s)
    s

/-- The entry whose reply window is open, and the time at which it closes. -/
def State.listening (s : State) : Option (EntryId × Nat) :=
  match s.line.exchange with
  | some x =>
    match x.phase with
    | .window t => some (x.entry, t)
    | .sending => none
  | none => none

/-- A reply has arrived within the window: once its bytes reach the length the entry's kind gives, it is judged (R155); bytes beyond the
length are discarded, and a shorter reply is left to the window's expiry. -/
def execStatusFrameReceived (rx : List Bool) (s : State) : Host.Outcome State Fault Refusal :=
  takeEvent
    (fun s =>
      match s.listening with
      | some (e, _) =>
        let bytes := receive rx
        let n := s.replyLength e
        if n ≤ bytes.length then endExchange e (bytes.take n) (judgeReply e (bytes.take n)) s else s
      | none => s)
    s

/-- The reply window has run out: a reply that reached its length within it is judged, and with fewer bytes it is a miss (R155). -/
def execReplyWindowExpiry (rx : List Bool) (s : State) : Host.Outcome State Fault Refusal :=
  takeEvent
    (fun s =>
      match s.listening with
      | some (e, t) =>
        let s := s.modLine fun x => { x with ms := max x.ms t }
        let bytes := receive rx
        let n := s.replyLength e
        if n ≤ bytes.length then endExchange e (bytes.take n) (judgeReply e (bytes.take n)) s
        else endExchange e bytes (countMiss e) s
      | none => s)
    s

end Sys2Proof.Machine
end

