-- ==== Sys2Proof/Machine/LoadCommands.lean ====
section
/-! DEFINITION. The requests on the load table, the budgets and the load state (chapter 3). -/

namespace Sys2Proof.Machine

/-! ### SET_LOAD_TABLE (R50) -/

/-- The six weights in the order of section 3.1. -/
def LoadTable.weights (t : LoadTable) : List Nat := [t.sealed, t.seating, t.leaking, t.noTruck, t.fault, t.lost]

/-- The enabled rooms, ascending. -/
def State.enabledRooms (s : State) : List RoomId := allRooms.filter fun r => (s.room r).enabled

def handleSetLoadTable (t : LoadTable) (s : State) : Answer :=
  if t.weights.any fun w => decide (63 < w) then answer .range s
  else answer .ok (settle s [] s.enabledRooms (setFlag [.dock] .bays { s with loadTable := t }))

/-- SET_LOAD_TABLE (R50). -/
def execSetLoadTable (p : PortId) (s : State) : Host.Outcome State Fault Refusal :=
  takeRequest 0x28 parseLoadTable handleSetLoadTable p s

/-! ### SET_ROOM_BUDGETS (R52) -/

/-- Writes the two budgets of a room (R52). -/
def writeBudgets (r : RoomId) (normal defrost : Nat) (s : State) : State :=
  setFlag [.dock] .bays (s.modLoad r fun x => { x with normal := normal, defrost := defrost })

def handleSetRoomBudgets (q : Nat × Nat × Nat) (s : State) : Answer :=
  match idOf 8 q.1 with
  | none => answer .range s
  | some r =>
    if q.2.1 < q.2.2 then answer .range s
    else
      let s' := writeBudgets r q.2.1 q.2.2 s
      answer .ok (if (s.room r).enabled then settle s [r] [r] s' else s')

/-- SET_ROOM_BUDGETS (R52). -/
def execSetRoomBudgets (p : PortId) (s : State) : Host.Outcome State Fault Refusal :=
  takeRequest 0x29 parse111 handleSetRoomBudgets p s

/-! ### READ_LOAD (R65) -/

/-- A committed bay in a READ_LOAD response (R65). DESIGN CHOICE: its parts stand in R65's order, not in that of the bay record's field table
(log entry 33). -/
def State.committedEntry (s : State) (b : BayId) : List Byte :=
  w1 b.val ++ w1 (s.bay b).grant.code ++ w1 (s.bay b).cond.code ++ w1 (s.weightOf b)

/-- A record of the grant queue in a READ_LOAD response (R65). DESIGN CHOICE: its parts stand in R65's order, not in that of the request record's
field table (log entry 33). -/
def State.queueEntry (s : State) (r : RoomId) (b : BayId) : List Byte :=
  match (s.bay b).request with
  | some q =>
    w1 b.val ++ w1 q.origin.code ++ w1 q.priority ++ yn (s.urgent q) ++ (w1 q.linked.length ++ q.linked.flatMap w2) ++
      w1 (s.budgetFor r b)
  | none => []

/-- The READ_LOAD record (R65). -/
def State.loadRecord (s : State) (r : RoomId) : List Byte :=
  let x := s.load r
  payloadOf
    ([s.loadTable.weights.flatMap w1,
      w1 x.normal ++ w1 x.defrost ++ w2 x.committed ++ w1 x.coils ++ w1 x.claim.code] ++
      listItems ((s.committedBays r).map s.committedEntry) ++ listItems ((s.queueOf r).map (s.queueEntry r)))

def handleReadLoad (n : Nat) (s : State) : Answer :=
  match idOf 8 n with
  | none => answer .range s
  | some r => answerWith (s.loadRecord r) s

/-- READ_LOAD (R65). -/
def execReadLoad (p : PortId) (s : State) : Host.Outcome State Fault Refusal := takeRequest 0x2A parse1 handleReadLoad p s

end Sys2Proof.Machine
end

