-- ==== Sys2Proof/Machine/OrderCommands.lean ====
section
/-! DEFINITION. The requests of the DOCK and FLEET roles on move orders (chapter 7). -/

namespace Sys2Proof.Machine

/-! ### Numbers and records (R116) -/

/-- The order number after another: 1 after 65,535 (R116). -/
def nextAfter (n : Nat) : Nat := if n < Config.orderMax then n + 1 else 1

/-- The next order number after `n` that no record in use holds (R116). At most 32 are held, so 33 tries are enough. -/
def State.freeNumber (s : State) : Nat → Nat → Nat
  | 0, n => nextAfter n
  | fuel + 1, n => if (s.order (nextAfter n)).isSome then s.freeNumber fuel (nextAfter n) else nextAfter n

/-- The number the next order receives (R116). -/
def State.nextNumber (s : State) : Nat := s.freeNumber Config.orderRecords s.lastOrder

/-- Order of R116 among ended orders: earlier ended at first, then the lower order number. -/
def endedFirst (a b : Order) : Bool :=
  decide (a.endedAt.getD 0 < b.endedAt.getD 0) || (a.endedAt == b.endedAt && decide (a.num < b.num))

/-- The ended order whose record a new order takes when none is free (R116). -/
def State.reusable (s : State) : Option Order := (sortBy endedFirst (s.orders.filter fun o => !o.state.unfinished)).head?

/-- The orders that stay when a new order takes a record; none when no record is available (R116). -/
def State.ordersKept (s : State) : Option (List Order) :=
  if s.orders.length < Config.orderRecords then some s.orders
  else s.reusable.map fun v => s.orders.filter fun o => o.num != v.num

/-! ### ORDER_CREATE (R117, R118) -/

/-- An order asked for, its values in range (R117). -/
structure NewOrder where
  mode : Mode
  source : Endpoint
  pickEnd : ListEnd
  named : Nat
  dest : Endpoint
  placement : ListEnd
  count : Nat
  priority : Nat
  deriving DecidableEq, Repr

/-- The values of an ORDER_CREATE, when they are in range: a named pallet counts for SINGLE only, a pick end for RUN and LANE only, a count
for RUN only (R117). -/
def CreateReq.inRange (q : CreateReq) : Option NewOrder :=
  match modeOf q.mode, endpointOf q.sourceKind q.sourceNum, endpointOf q.destKind q.destNum, listEndOf q.placement with
  | some m, some src, some dst, some pl =>
    if src = dst ∨ 3 < q.priority then none
    else
      match m with
      | .single =>
        if idInRange q.named then
          some { mode := m, source := src, pickEnd := .front, named := q.named, dest := dst, placement := pl, count := 1,
                 priority := q.priority }
        else none
      | .run =>
        match listEndOf q.pickEnd with
        | some pe =>
          if 1 ≤ q.count ∧ q.count ≤ 30 then
            some { mode := m, source := src, pickEnd := pe, named := 0, dest := dst, placement := pl, count := q.count,
                   priority := q.priority }
          else none
        | none => none
      | .lane =>
        (listEndOf q.pickEnd).map fun pe =>
          { mode := m, source := src, pickEnd := pe, named := 0, dest := dst, placement := pl, count := 0, priority := q.priority }
  | _, _, _, _ => none

/-- The checks of R117 after the ranges, but the last: the status of the first that fails. -/
def State.createRefusal (s : State) (q : NewOrder) : Option Status :=
  if !s.endpointEnabled q.source || !s.endpointEnabled q.dest then some .notEnabled
  else if (s.sourceOf q.source).isSome then some .inUse
  else
    match q.mode with
    | .single => if (s.listAt q.source).contains q.named then none else some .notFound
    | _ => if (s.listAt q.source).isEmpty then some .empty else none

/-- The record a new order starts with, before its evaluation (R118). -/
def NewOrder.start (q : NewOrder) (num occupancy now : Nat) : Order :=
  { num := num, mode := q.mode, source := q.source, pickEnd := q.pickEnd, named := q.named, dest := q.dest, placement := q.placement,
    requested := if q.mode = .lane then occupancy else q.count, done := 0, priority := q.priority, state := .waiting, reason := none,
    cause := none, carried := none, leadWarned := false, cancelPending := false, createdAt := now, endedAt := none }

/-- Takes a new order into use among the orders kept, evaluates it, reports it and files its bay requests (R118). -/
def createOrder (q : NewOrder) (kept : List Order) (s : State) : State :=
  let n := s.nextNumber
  let o := q.start n (s.listAt q.source).length s.clock
  let s1 := ({ s with orders := kept ++ [o], lastOrder := n }).setSourceOf q.source (some n)
  settle s [] [] (fileBays n (putOrder o (s1.evaluated .ready o) s1))

/-- An order's state, with its waiting reason and exception cause, in a response (R118). -/
def Order.stateBytes (o : Order) : List Byte :=
  w1 o.state.code ++ optional 1 (o.reason.map fun r => w1 r.code) ++ optional 1 (o.cause.map fun c => w1 c.code)

/-- A byte field of the order with this number, in a response. -/
def State.orderBytes (s : State) (n : Nat) (f : Order → List Byte) : List Byte := ((s.order n).map f).getD []

/-- The state of an order in a response. -/
def Order.stateByte (o : Order) : List Byte := w1 o.state.code

def handleOrderCreate (q : CreateReq) (s : State) : Answer :=
  match q.inRange with
  | none => answer .range s
  | some q =>
    match s.createRefusal q with
    | some st => answer st s
    | none =>
      match s.ordersKept with
      | none => answer .full s
      | some kept =>
        let s' := createOrder q kept s
        answerWith (w2 s.nextNumber ++ s'.orderBytes s.nextNumber Order.stateBytes) s'

/-- ORDER_CREATE (R117, R118). -/
def execOrderCreate (p : PortId) (s : State) : Host.Outcome State Fault Refusal :=
  takeRequest 0x50 parseCreateReq handleOrderCreate p s

/-! ### Requests that name an order -/

/-- A request that names an order: its number in range and in use (R131 to R134). -/
def withOrder (n : Nat) (f : Order → State → Answer) (s : State) : Answer :=
  if n = 0 ∨ Config.orderMax < n then answer .range s
  else
    match s.order n with
    | none => answer .notFound s
    | some o => f o s

/-! ### ORDER_CANCEL (R132) -/

/-- An order cancelled (R130, R132). -/
def Order.cancelled (o : Order) : Order :=
  { o with state := .cancelled, reason := none, cause := none, carried := none, cancelPending := false }

/-- ORDER_CANCEL of an order in use (R132). -/
def cancelOrder (o : Order) (s : State) : Answer :=
  match o.state with
  | .done | .cancelled => answer .state s
  | .carrying => answerWith o.stateByte (putOrder o { o with cancelPending := true } s)
  | _ => answerWith o.cancelled.stateByte (settle s [] [] (putOrder o o.cancelled s))

def handleOrderCancel (n : Nat) (s : State) : Answer := withOrder n cancelOrder s

/-- ORDER_CANCEL (R132). -/
def execOrderCancel (p : PortId) (s : State) : Host.Outcome State Fault Refusal := takeRequest 0x51 parse2 handleOrderCancel p s

/-! ### ORDER_RESUME (R133) -/

/-- ORDER_RESUME of an order in use (R133). -/
def resumeOrder (o : Order) (s : State) : Answer :=
  if o.state ≠ .exception then answer .state s
  else
    let s' := settle s [] [] (fileBays o.num (putOrder o (s.evaluated .ready { o with cause := none }) s))
    answerWith (s'.orderBytes o.num Order.stateByte) s'

def handleOrderResume (n : Nat) (s : State) : Answer := withOrder n resumeOrder s

/-- ORDER_RESUME (R133). -/
def execOrderResume (p : PortId) (s : State) : Host.Outcome State Fault Refusal := takeRequest 0x52 parse2 handleOrderResume p s

/-! ### ORDER_CLEAR (R134) -/

/-- ORDER_CLEAR of an order in use (R134). -/
def clearOrder (o : Order) (s : State) : Answer :=
  if o.state.unfinished then answer .state s else answer .ok { s with orders := s.orders.filter fun x => x.num != o.num }

def handleOrderClear (n : Nat) (s : State) : Answer := withOrder n clearOrder s

/-- ORDER_CLEAR (R134). -/
def execOrderClear (p : PortId) (s : State) : Host.Outcome State Fault Refusal := takeRequest 0x53 parse2 handleOrderClear p s

/-! ### READ_ORDER (R134) -/

/-- The present lead pallet of an order; an ended order picks none (R119). DESIGN CHOICE: the named pallet of an unfinished SINGLE order is shown
though its record has been retired (log entry 35). -/
def State.leadShown (s : State) (o : Order) : Option Nat := if o.state.unfinished then s.leadOf o else none

/-- Every field of an order record, in the order of section 7.1.1, and its lead pallet (R134). -/
def State.orderRecord (s : State) (o : Order) : List Byte :=
  yn true ++ w2 o.num ++ w1 o.mode.code ++ o.source.bytes ++ w1 o.pickEnd.code ++ w4 o.named ++ o.dest.bytes ++ w1 o.placement.code ++
    w1 o.requested ++ w1 o.done ++ w1 o.priority ++ o.stateBytes ++ optional 4 (o.carried.map w4) ++ yn o.leadWarned ++
    yn o.cancelPending ++ w4 o.createdAt ++ optional 4 (o.endedAt.map w4) ++ optional 4 ((s.leadShown o).map w4)

/-- One order in the summary (R134). -/
def Order.summary (o : Order) : List Byte := w2 o.num ++ w1 o.mode.code ++ o.stateBytes ++ w1 o.requested ++ w1 o.done

/-- The READ_ORDER summary (R134). -/
def State.orderSummary (s : State) : List Byte := payloadOf (w2 s.lastOrder :: listItems (s.ordersByNum.map Order.summary))

def handleReadOrder (n : Nat) (s : State) : Answer :=
  if n = 0 then (s, { status := if s.orders.isEmpty then .none else .ok, payload := s.orderSummary })
  else withOrder n (fun o s => answerWith (s.orderRecord o) s) s

/-- READ_ORDER (R134). -/
def execReadOrder (p : PortId) (s : State) : Host.Outcome State Fault Refusal := takeRequest 0x54 parse2 handleReadOrder p s

/-! ### FETCH_ORDER (R125) -/

/-- Order of R125: higher priority first, then earlier created at, then the lower order number. -/
def fetchedFirst (a b : Order) : Bool := decide (b.priority < a.priority) || (a.priority == b.priority && orderedFirst a b)

/-- The order a FETCH_ORDER chooses (R125). -/
def State.toFetch (s : State) : Option Order := (sortBy fetchedFirst (s.orders.filter fun o => o.state == .ready)).head?

/-- The FETCH_ORDER response (R125). -/
def State.fetchRecord (s : State) (o : Order) : List Byte :=
  w2 o.num ++ w1 o.mode.code ++ o.source.bytes ++ w1 o.pickEnd.code ++ o.dest.bytes ++ w1 o.placement.code ++ w1 o.requested ++
    w1 o.done ++ w1 o.priority ++ w4 ((s.leadOf o).getD 0)

def handleFetchOrder (_ : Unit) (s : State) : Answer :=
  match s.toFetch with
  | none => answer .none s
  | some o => answerWith (s.fetchRecord o) (putOrder o { o with state := .dispatched } s)

/-- FETCH_ORDER (R125). -/
def execFetchOrder (p : PortId) (s : State) : Host.Outcome State Fault Refusal := takeRequest 0x58 parse0 handleFetchOrder p s

/-! ### PICK (R126) -/

/-- The lane a destination is, if it is one. -/
def Endpoint.lane? : Endpoint → Option LaneId
  | .lane l => some l
  | .bay _ => none

/-- The lists and lanes a pick or a drop changes: the one named, and a lane destination, whose reservations change. -/
def touched (ep : Endpoint) (o : Order) : List Endpoint :=
  match o.dest with
  | .lane _ => [ep, o.dest]
  | .bay _ => [ep]

/-- The pallet table's part of a pick: a reservation in a lane destination, then the lift (R98, R99). -/
def takePallet (o : Order) (id : Nat) (s : State) : Except Status State :=
  match o.dest.lane? with
  | some l =>
    match reserve l s with
    | .ok s => lift id o.num o.source s
    | .error st => .error st
  | none => lift id o.num o.source s

/-- An accepted pick: the order carries the pallet (R126). -/
def carryOrder (o : Order) (id : Nat) (s0 s : State) : State :=
  let o' := s.withLead { o with state := .carrying, carried := some id, reason := none, cause := none }
  settle s0 [] [] (noticeLists (touched o.source o) (putOrder o o' s))

/-- PICK of an order in use (R126). -/
def pickOrder (id : Nat) (o : Order) (s : State) : Answer :=
  if o.state ≠ .dispatched then answer .state s
  else if s.leadOf o ≠ some id then answer .wrongPallet (raiseAlarm .mispick o.num none s)
  else if s.isHeld id && !s.toQuarantine o then
    answer .palletHeld
      (settle s [] [] (putOrder o (s.withLead { o with state := .exception, cause := some .held, reason := none }) s))
  else
    match takePallet o id s with
    | .error st => answer st s
    | .ok s' => answerWith (o.dest.bytes ++ w1 o.placement.code) (carryOrder o id s s')

def handlePick (q : Nat × Nat) (s : State) : Answer :=
  if !idInRange q.2 then answer .range s else withOrder q.1 (pickOrder q.2) s

/-- PICK (R126). -/
def execPick (p : PortId) (s : State) : Host.Outcome State Fault Refusal := takeRequest 0x59 parse24 handlePick p s

/-! ### DROP (R128 to R130) -/

/-- The order after its pallet was set down at its destination (R128, R130). -/
def State.afterDrop (s : State) (o : Order) : Order :=
  let o1 := { o with carried := none, done := o.done + 1, reason := none, state := .dispatched }
  if o.cancelPending then s.withLead o1.cancelled
  else if o1.requested ≤ o1.done then s.withLead { o1 with state := .done }
  else s.evaluated .dispatched o1

/-- What a drop leaves to do once its pallet is down: the order's change, the notices of the changed lists, the settling. -/
def finishDrop (o o' : Order) (loc : Endpoint) (s0 s : State) : State :=
  settle s0 [] [] (noticeLists (touched loc o) (putOrder o o' s))

/-- A drop at the order's destination (R128, R130). -/
def dropAtDest (id : Nat) (o : Order) (s : State) : Answer :=
  if s.closedBay o.dest then answer .bayNotOpen (putOrder o { o with reason := some .bay } s)
  else
    match setDown id o.num o.dest o.placement o.dest.lane?.isSome s with
    | .error st => answer st s
    | .ok s' =>
      let o' := s'.afterDrop o
      let t := finishDrop o o' o.dest s s'
      answerWith (t.orderBytes o.num Order.stateByte ++ if o.cancelPending then [] else w1 o'.done) t

/-- A reservation an order holds in its destination lane is released (R98). -/
def releaseReservation (o : Order) (s : State) : State :=
  match o.dest.lane? with
  | some l => unreserve l s
  | none => s

/-- A drop in a lane that is not the order's destination, accepted (R129, R130). -/
def misdropAt (loc : Endpoint) (o : Order) (s0 s : State) : Answer :=
  let s1 := releaseReservation o s
  if o.cancelPending then
    answerWith o.cancelled.stateByte (finishDrop o (s1.withLead o.cancelled) loc s0 s1)
  else
    let o' := { o with state := .exception, cause := some .misdrop, reason := none, carried := none }
    answerWith o'.stateByte (finishDrop o (s1.withLead o') loc s0 (raiseAlarm .misdrop o.num none s1))

/-- A drop elsewhere than at the order's destination (R129, R130). -/
def dropElsewhere (id : Nat) (loc : Endpoint) (o : Order) (s : State) : Answer :=
  match loc with
  | .bay _ => answer .wrongLocation (raiseAlarm .misdrop o.num none s)
  | .lane _ =>
    match setDown id o.num loc .back false s with
    | .error st => answer st s
    | .ok s' => misdropAt loc o s s'

/-- DROP of an order in use (R128 to R130). -/
def dropOrder (id : Nat) (loc : Endpoint) (o : Order) (s : State) : Answer :=
  if o.state ≠ .carrying then answer .state s
  else if o.carried ≠ some id then answer .notCarried s
  else if loc = o.dest then dropAtDest id o s
  else dropElsewhere id loc o s

def handleDrop (q : DropReq) (s : State) : Answer :=
  match endpointOf q.locKind q.locNum with
  | none => answer .range s
  | some loc =>
    if !idInRange q.id then answer .range s else withOrder q.order (dropOrder q.id loc) s

/-- DROP (R128 to R130). -/
def execDrop (p : PortId) (s : State) : Host.Outcome State Fault Refusal := takeRequest 0x5A parseDropReq handleDrop p s

/-! ### ABANDON (R131) -/

/-- ABANDON of an order in use (R131). -/
def giveUpOrder (o : Order) (s : State) : Answer :=
  if o.state ≠ .dispatched then answer .state s else answer .ok (settle s [] [] (abandonOrder o.num s))

def handleAbandon (n : Nat) (s : State) : Answer := withOrder n giveUpOrder s

/-- ABANDON (R131). -/
def execAbandon (p : PortId) (s : State) : Host.Outcome State Fault Refusal := takeRequest 0x5B parse2 handleAbandon p s

end Sys2Proof.Machine
end

