-- ==== Sys2Proof/Machine/PalletCommands.lean ====
section
/-! DEFINITION. The requests on pallets, lanes and truck lists (chapter 5), and the exposure period with its expiry (chapter 6). -/

namespace Sys2Proof.Machine

/-! ### RECEIVE and ADMIT (R88 to R90) -/

/-- The ranges of an admission: id, limit and budget (R89, R90). -/
def AdmitReq.inRange (q : AdmitReq) : Bool :=
  decide (1 ≤ q.id ∧ q.id ≤ Config.palletIdMax) && decide (-400 ≤ q.limit ∧ q.limit ≤ 100) && decide (1 ≤ q.budget)

/-- The record an admitted pallet takes (R88). -/
def AdmitReq.record (q : AdmitReq) (place : Place) (now : Nat) : Pallet :=
  { id := q.id, limit := q.limit, budget := q.budget, exposure := q.exposure, place := place,
    warned := warnReached q.exposure q.budget, held := decide (q.budget ≤ q.exposure), released := false, admittedAt := now }

/-- Admits a pallet at the back of a lane or truck list (R88). -/
def admitAt (ep : Endpoint) (q : AdmitReq) (s : State) : State :=
  let x := q.record ep.place s.clock
  let s1 := ({ s with pallets := s.pallets ++ [x] }).modList ep (· ++ [x.id])
  let s2 := if x.warned then raiseAlarm .palletWarn x.id (some x.exposure) s1 else s1
  let s3 := if x.held then raiseAlarm .palletHeld x.id (some x.exposure) s2 else s2
  settle s [] [] (noticeLists [ep] s3)

/-- The response of an admission: the position, and the WARNED and HELD flags (R89, R90). DESIGN CHOICE: the
position takes one byte (log entry 11). -/
def admitted (ep : Endpoint) (q : AdmitReq) (s : State) : Answer :=
  let x := q.record ep.place s.clock
  answerWith (w1 (s.listAt ep).length ++ yn x.warned ++ yn x.held) (admitAt ep q s)

/-- A pallet record is free. -/
def State.recordFree (s : State) : Bool := decide (0 < s.freePallets)

def handleReceive (q : AdmitReq) (s : State) : Answer :=
  match idOf 32 q.at_ with
  | none => answer .range s
  | some b =>
    if !q.inRange then answer .range s
    else if !(s.bay b).enabled then answer .notEnabled s
    else if !(s.bay b).grant.isOpen then answer .bayNotOpen s
    else if Config.truckPlaces ≤ (s.truck b).pallets.length || !s.recordFree then answer .full s
    else if (s.pallet q.id).isSome then answer .duplicate s
    else admitted (.bay b) q s

/-- RECEIVE (R89). -/
def execReceive (p : PortId) (s : State) : Host.Outcome State Fault Refusal := takeRequest 0x40 parseAdmitReq handleReceive p s

def handleAdmit (q : AdmitReq) (s : State) : Answer :=
  match idOf 64 q.at_ with
  | none => answer .range s
  | some l =>
    if !q.inRange then answer .range s
    else if !(s.lane l).enabled then answer .notEnabled s
    else if (s.lane l).isFull then answer .laneFull s
    else if !s.recordFree then answer .full s
    else if (s.pallet q.id).isSome then answer .duplicate s
    else admitted (.lane l) q s

/-- ADMIT (R90). -/
def execAdmitPallet (p : PortId) (s : State) : Host.Outcome State Fault Refusal := takeRequest 0x41 parseAdmitReq handleAdmit p s

/-! ### REMOVE, RELEASE_HOLD, DEPART (R91 to R94) -/

/-- The notice of retired pallets: the orders of the lists they left, and those that name one of them (R94, R121). -/
def noticeRetired (eps : List Endpoint) (ids : List Nat) (s : State) : State :=
  noticeOrders (fun o => eps.any o.uses || (o.mode == .single && ids.contains o.named)) s

/-- Retires some pallets of one list, the flag set and the notice given once (R94). -/
def retireAll (ep : Endpoint) (xs : List Pallet) (s : State) : State :=
  if xs.isEmpty then s
  else
    settle s [] []
      (noticeRetired [ep] (xs.map (·.id)) (setFlag [.dock] .pallets (xs.foldl (fun s x => retire x s) s)))

def handleRemove (id : Nat) (s : State) : Answer :=
  if !idInRange id then answer .range s
  else
    match s.pallet id with
    | none => answer .notFound s
    | some x =>
      match x.place.endpoint with
      | none => answer .state s
      | some ep => if s.namedByOrder id then answer .inUse s else answer .ok (retireAll ep [x] s)

/-- REMOVE (R91). -/
def execRemove (p : PortId) (s : State) : Host.Outcome State Fault Refusal := takeRequest 0x42 parse4 handleRemove p s

/-- An order's lead pallet is this one (R119). -/
def State.leads (s : State) (id : Nat) (o : Order) : Bool := s.leadOf o == some id

/-- Releases a HELD pallet (R92). -/
def releaseHold (id : Nat) (s : State) : State :=
  let s1 := s.modPallet id fun x => { x with held := false, released := true }
  let s2 := setFlag [.dock] .pallets (clearAlarm .palletHeld id s1)
  settle s [] [] (noticeOrders (s2.leads id) s2)

def handleReleaseHold (id : Nat) (s : State) : Answer :=
  if !idInRange id then answer .range s
  else
    match s.pallet id with
    | none => answer .notFound s
    | some x => if !x.held then answer .state s else answer .ok (releaseHold id s)

/-- RELEASE_HOLD (R92). -/
def execReleaseHold (p : PortId) (s : State) : Host.Outcome State Fault Refusal := takeRequest 0x43 parse4 handleReleaseHold p s

def handleDepart (n : Nat) (s : State) : Answer :=
  match idOf 32 n with
  | none => answer .range s
  | some b =>
    if !(s.bay b).enabled then answer .notEnabled s
    else if (s.bay b).grant ≠ .none ∨ (s.bay b).shutter ≠ .closed then answer .state s
    else if s.inUseByOrder (.bay b) then answer .inUse s
    else
      let xs := (s.truck b).pallets.filterMap s.pallet
      answerWith (w1 xs.length) (retireAll (.bay b) xs s)

/-- DEPART (R93). -/
def execDepart (p : PortId) (s : State) : Host.Outcome State Fault Refusal := takeRequest 0x44 parse1 handleDepart p s

/-! ### Lanes (R96, R97) -/

/-- Applies new settings to an enabled lane (R96). -/
def changeLane (l : LaneId) (r : RoomId) (depth : Nat) (quarantine : Bool) (s : State) : State :=
  settle s [] []
    (noticeLists [.lane l] (s.modLane l fun x => { x with room := r, depth := depth, quarantine := quarantine }))

/-- Enables a lane (R96). -/
def startLane (l : LaneId) (r : RoomId) (depth : Nat) (quarantine : Bool) (s : State) : State :=
  s.modLane l fun _ => { Lane.reset with enabled := true, room := r, depth := depth, quarantine := quarantine }

def handleSetLane (q : Nat × Nat × Nat × Nat) (s : State) : Answer :=
  match idOf 64 q.1, idOf 8 q.2.1, yesNoOf q.2.2.2 with
  | some l, some r, some quarantine =>
    let depth := q.2.2.1
    let x := s.lane l
    if ¬ (1 ≤ depth ∧ depth ≤ 12) then answer .range s
    else if x.enabled then
      if x.room ≠ r ∧ (x.pallets ≠ [] ∨ 0 < x.reservations) then answer .inUse s
      else if x.room ≠ r ∧ (s.room r).enabled = false then answer .notEnabled s
      else if depth < x.pallets.length + x.reservations then answer .inUse s
      else answer .ok (changeLane l r depth quarantine s)
    else if !(s.room r).enabled then answer .notEnabled s
    else answer .ok (startLane l r depth quarantine s)
  | _, _, _ => answer .range s

/-- SET_LANE (R96). -/
def execSetLane (p : PortId) (s : State) : Host.Outcome State Fault Refusal := takeRequest 0x45 parse1111 handleSetLane p s

/-- A lane record after DISABLE_LANE (R97). -/
def Lane.disabled (x : Lane) : Lane := { Lane.reset with room := x.room, depth := x.depth, quarantine := x.quarantine }

def handleDisableLane (n : Nat) (s : State) : Answer :=
  match idOf 64 n with
  | none => answer .range s
  | some l =>
    if !(s.lane l).enabled then answer .state s
    else if !(s.lane l).pallets.isEmpty || decide (0 < (s.lane l).reservations) || s.inUseByOrder (.lane l) then answer .inUse s
    else answer .ok (s.modLane l Lane.disabled)

/-- DISABLE_LANE (R97). -/
def execDisableLane (p : PortId) (s : State) : Host.Outcome State Fault Refusal := takeRequest 0x46 parse1 handleDisableLane p s

/-! ### READ_LANE and READ_PALLET (R102) -/

/-- The READ_LANE record (R102). -/
def State.laneRecord (s : State) (l : LaneId) : List Byte :=
  let x := s.lane l
  payloadOf
    ((yn x.enabled ++ w1 x.room.val ++ w1 x.depth ++ yn x.quarantine ++ w1 x.pallets.length ++ w1 x.reservations ++ w1 x.free ++
        optional 2 (x.sourceOf.map w2)) ::
      listItems (x.pallets.map w4))

def handleReadLane (n : Nat) (s : State) : Answer :=
  match idOf 64 n with
  | none => answer .range s
  | some l => answerWith (s.laneRecord l) s

/-- READ_LANE (R102). -/
def execReadLane (p : PortId) (s : State) : Host.Outcome State Fault Refusal := takeRequest 0x47 parse1 handleReadLane p s

/-- The position of a pallet in its list, absent while it is CARRIED (R102). -/
def State.positionOf (s : State) (x : Pallet) : Option Nat := x.place.endpoint.map fun ep => (s.listAt ep).idxOf x.id

/-- A pallet record in a READ_PALLET response (R102). DESIGN CHOICE: the position takes one byte (log entry 11). -/
def State.palletBytes (s : State) (x : Pallet) : List Byte :=
  w4 x.id ++ i2 x.limit ++ w4 x.budget ++ w4 x.exposure ++ x.place.bytes ++ optional 1 ((s.positionOf x).map w1) ++ yn x.warned ++
    yn x.held ++ yn x.released ++ w4 x.admittedAt

/-- The records of up to 8 pallets of a list from a start position (R102). -/
def State.palletsFrom (s : State) (ep : Endpoint) (start : Nat) : List Pallet :=
  (((s.listAt ep).drop start).take 8).filterMap s.pallet

/-- READ_PALLET by place: the number of pallets, the source-of order, the records, the number of free records (R102). -/
def State.placeRecord (s : State) (ep : Endpoint) (start : Nat) : List Byte :=
  payloadOf
    ([w1 (s.listAt ep).length ++ optional 2 ((s.sourceOf ep).map w2)] ++ listItems ((s.palletsFrom ep start).map s.palletBytes) ++
      [w2 s.freePallets])

def handleReadPallet (q : PalletQuery) (s : State) : Answer :=
  match q with
  | .badForm => answer .range s
  | .byId id =>
    if !idInRange id then answer .range s
    else
      match s.pallet id with
      | none => answer .notFound s
      | some x => answerWith (s.palletBytes x ++ w2 s.freePallets) s
  | .byPlace kind n start =>
    match endpointOf kind n with
    | none => answer .range s
    | some ep =>
      if 29 < start then answer .range s
      else (s, { status := if (s.listAt ep).length ≤ start then .none else .ok, payload := s.placeRecord ep start })

/-- READ_PALLET (R102). -/
def execReadPallet (p : PortId) (s : State) : Host.Outcome State Fault Refusal :=
  takeRequest 0x48 parsePalletQuery handleReadPallet p s

/-! ### The exposure period (R104, R105, R114) -/

/-- The time of the present exposure period's end (R104). -/
def State.exposureExpiry (s : State) : Nat := s.expTimer.start + s.expTimer.inForce

def handleSetExposurePeriod (secs : Nat) (s : State) : Answer :=
  if 1 ≤ secs ∧ secs ≤ 60 then
    answerWith (w2 s.expTimer.inForce ++ w4 s.exposureExpiry) { s with expTimer := { s.expTimer with next := secs } }
  else answer .range s

/-- SET_EXPOSURE_PERIOD (R105). -/
def execSetExposurePeriod (p : PortId) (s : State) : Host.Outcome State Fault Refusal :=
  takeRequest 0x4C parse2 handleSetExposurePeriod p s

/-- A room in a READ_EXPOSURE response (R114). -/
def Room.exposureBytes (x : Room) : List Byte :=
  yn x.enabled ++ i2 x.temp ++ yn x.probeLost ++ w1 x.cfg.surcharge.toNat ++ i2 (if x.enabled then x.accrual else x.temp)

/-- The number of pallet records in use of which `f` holds. -/
def State.countPallets (s : State) (f : Pallet → Bool) : Nat := (s.pallets.filter f).length

/-- The READ_EXPOSURE record (R114). -/
def State.exposureRecord (s : State) : List Byte :=
  w2 s.expTimer.inForce ++ w4 s.expTimer.start ++ w4 s.exposureExpiry ++ w2 s.expTimer.next ++ optional 4 (s.expTimer.last.map w4) ++
    allRooms.flatMap (fun r => (s.room r).exposureBytes) ++
    (w2 s.pallets.length ++ w2 (s.countPallets (·.warned)) ++ w2 (s.countPallets (·.held)) ++ w2 (s.countPallets (·.released)))

def handleReadExposure (_ : Unit) (s : State) : Answer := answerWith s.exposureRecord s

/-- READ_EXPOSURE (R114). -/
def execReadExposure (p : PortId) (s : State) : Host.Outcome State Fault Refusal := takeRequest 0x4D parse0 handleReadExposure p s

/-! ### The exposure expiry (R106 to R113) -/

/-- A truck list takes exposure in these grant states of its bay (R109). -/
def Grant.exposes : Grant → Bool
  | .active | .overdue | .forced => true
  | _ => false

/-- The location temperature of a place (R108 to R110). -/
def State.locationTemp (s : State) : Place → Option Int
  | .lane l => some (s.room (s.lane l).room).accrual
  | .truck b => if (s.bay b).grant.exposes then some (s.room (s.bay b).room).accrual else none
  | .carried n =>
    (s.order n).map fun o => max (s.room (s.roomOf o.source)).accrual (s.room (s.roomOf o.dest)).accrual

/-- A pallet after its accrual and threshold tests (R111, R112). -/
def Pallet.expose (t : Option Int) (secs : Nat) (x : Pallet) : Pallet :=
  match t with
  | none => x
  | some t =>
    let e := accrued x.exposure secs x.limit t
    { x with exposure := e, warned := x.warned || warnReached e x.budget,
             held := x.held || (!x.released && decide (x.budget ≤ e)) }

/-- Every pallet record in use after an expiry of a period of `secs` seconds (R106): the places' temperatures do not depend on the
pallets. -/
def State.exposed (s : State) (secs : Nat) : List Pallet := s.pallets.map fun x => x.expose (s.locationTemp x.place) secs

/-- Raises the alarms of the flags an expiry has newly set on a pallet, `p.1` before it and `p.2` after it (R112). -/
def raiseMarked (s : State) (p : Pallet × Pallet) : State :=
  let s := if p.2.warned && !p.1.warned then raiseAlarm .palletWarn p.1.id (some p.2.exposure) s else s
  if p.2.held && !p.1.held then raiseAlarm .palletHeld p.1.id (some p.2.exposure) s else s

/-- The ids of the pallets that an expiry marked WARNED or HELD. -/
def newlyMarked (before after : List Pallet) : List Nat :=
  (before.zip after).filterMap fun p =>
    if (p.2.warned && !p.1.warned) || (p.2.held && !p.1.held) then some p.1.id else none

/-- The exposure period expiry (R104, R106, R113). -/
def expireExposure (s : State) : State :=
  let now := s.exposureExpiry
  let after := s.exposed s.expTimer.inForce
  let s1 := { s with pallets := after
                     expTimer := { inForce := s.expTimer.next, start := now, next := s.expTimer.next, last := some now } }
  let s2 := (s.pallets.zip after).foldl raiseMarked s1
  let ids := newlyMarked s.pallets after
  if ids.isEmpty then s2 else settle s [] [] (noticeMarked ids (setFlag [.dock] .pallets s2))

/-- The exposure period timer expires (R106). -/
def execExposurePeriodExpiry (s : State) : Host.Outcome State Fault Refusal :=
  takeWhen (fun s => decide (s.exposureExpiry ≤ s.clock)) expireExposure s

end Sys2Proof.Machine
end

