-- ==== Sys2Proof/Machine/PortCommands.lean ====
section
/-! DEFINITION. The port unit's own requests, the selections, the resets and the dock clock (chapter 10). -/

namespace Sys2Proof.Machine

/-! ### READ_RESET_CAUSE, PORT_RESET and requests outside the catalogue (R162, R168, R169) -/

/-- The READ_RESET_CAUSE response: the record of section 10.4.1, the port's role, the dock clock (R168). -/
def State.resetBytes (s : State) (p : PortId) : List Byte :=
  let x := s.resetRec
  w1 (causeCode x.cause) ++ w1 x.roleA.code ++ w1 x.roleB.code ++ w1 x.roleC.code ++ yn x.demotedA ++ yn x.demotedB ++
    yn x.demotedC ++ w1 x.count ++ w1 (s.port p).role.code ++ w4 s.clock

def handleReadResetCause (p : PortId) (_ : Unit) (s : State) : Answer := answerWith (s.resetBytes p) s

/-- READ_RESET_CAUSE (R168). -/
def execReadResetCause (p : PortId) (s : State) : Host.Outcome State Fault Refusal :=
  takeRequest 0x7E parse0 (handleReadResetCause p) p s

def handlePortReset (p : PortId) (_ : Unit) (s : State) : Answer := answer .ok (resetPort p s)

/-- PORT_RESET (R169). -/
def execPortReset (p : PortId) (s : State) : Host.Outcome State Fault Refusal := takeRequest 0x7F parse0 (handlePortReset p) p s

/-- The status of a request whose code the catalogue does not list: its frame is checked first (R162). -/
def unknownStatus (rest : List Byte) : Status := if (framePayload rest).isSome then .unknown else .frame

/-- A request in progress whose code the catalogue does not list is taken (R162). -/
def execUnknownRequest (p : PortId) (s : State) : Host.Outcome State Fault Refusal :=
  takeEvent
    (fun s =>
      match (s.port p).request with
      | some (c :: rest) => if (catalogue c.toNat).isNone then respond p (.bare (unknownStatus rest)) s else s
      | _ => s)
    s

/-! ### Selections (R161 to R163, R169) -/

/-- SEL# of a port falls: a selection begins, busy while READY is low (R163). -/
def execSelectionBegin (p : PortId) (s : State) : Host.Outcome State Fault Refusal :=
  takeEvent
    (fun s =>
      if (s.port p).selection.isSome then s
      else s.modPort p fun c => { c with selection := some { busy := !s.readyPin p, pulsed := false }, sdo := [] })
    s

/-- A port context at the end of a selection (R162, R163): what SDO drove, the response consumed if its every byte was clocked out, and the
request the selection carried put in progress. -/
def PortCtx.deselect (sdi : List Bool) (x : Selection) (c : PortCtx) : PortCtx :=
  if x.busy then { c with selection := none, sdo := c.sdo ++ List.replicate sdi.length true }
  else if x.pulsed then { c with selection := none, sdo := c.sdo ++ List.replicate sdi.length false }
  else
    { c with selection := none, sdo := c.sdo ++ sdoBits c.response sdi.length,
             response := c.response.filter fun r => !r.consumedBy sdi.length, request := (requestOf sdi).or c.request }

/-- SEL# of a port rises: the selection ends (R162, R163). The rise that ends a long pulse takes no request and consumes nothing (R169). -/
def execSelectionEnd (p : PortId) (sdi : List Bool) (s : State) : Host.Outcome State Fault Refusal :=
  takeEvent
    (fun s =>
      match (s.port p).selection with
      | some x => s.modPort p (PortCtx.deselect sdi x)
      | none => s)
    s

/-- What SDO drove in a selection until its 10 ms ran out (R163). -/
def PortCtx.pulse (sdi : List Bool) (x : Selection) (c : PortCtx) : PortCtx :=
  { c with selection := some { x with pulsed := true },
           sdo := c.sdo ++ if x.busy then List.replicate sdi.length true else sdoBits c.response sdi.length }

/-- SEL# of a port has been low for 10 ms: the port is reset, once for the selection (R169). -/
def execLongSelPulse (p : PortId) (sdi : List Bool) (s : State) : Host.Outcome State Fault Refusal :=
  takeEvent
    (fun s =>
      match (s.port p).selection with
      | some x => if x.pulsed then s else resetPort p (s.modPort p (PortCtx.pulse sdi x))
      | none => s)
    s

/-! ### Full reset (R164, R167) -/

/-- The cause a reset in progress records when another cause begins: POWER_ON whatever else occurs, otherwise the one that began it
(R167). -/
def causeKept (held : Option ResetCause) (cause : ResetCause) : ResetCause :=
  match held with
  | none => cause
  | some c => if cause = .powerOn then .powerOn else c

/-- A full reset begins: the part is held in reset and the selections in progress are over (R167). -/
def execFullResetBegin (cause : ResetCause) (s : State) : Host.Outcome State Fault Refusal :=
  .next { s with hold := some (causeKept s.hold cause), ports := s.ports.map fun c => { c with selection := none } }

/-- The reset-cause record at the completion of a full reset (R164, R167): ports are taken in the order A, B, C. -/
def resetRecord (cause : ResetCause) (straps : Straps) (count : Nat) : ResetRec :=
  let a := takeRole (strapRole straps.a) []
  let b := takeRole (strapRole straps.b) [a.1]
  let c := takeRole (strapRole straps.c) [a.1, b.1]
  { cause := cause, roleA := a.1, roleB := b.1, roleC := c.1, demotedA := a.2, demotedB := b.2, demotedC := c.2,
    count := if cause = .powerOn then 0 else satAdd 255 count 1 }

/-- The last reset cause has ended: the reset completes (R167). -/
def execFullResetComplete (straps : Straps) (s : State) : Host.Outcome State Fault Refusal :=
  match s.hold with
  | some cause => .next (.afterReset (resetRecord cause straps s.resetRec.count) s.pending)
  | none => .next s

/-! ### The dock clock (R166) -/

/-- A second ends: the dock clock rises, saturating, and the line controller's time stands at least at it (R166). -/
def tick (s : State) : State :=
  let now := satAdd Config.clockMax s.clock 1
  { s with clock := now, line := { s.line with ms := max s.line.ms (1000 * now) } }

/-- A tick of the dock clock (R166). -/
def execDockClockTick (s : State) : Host.Outcome State Fault Refusal := takeEvent tick s

end Sys2Proof.Machine
end

