-- ==== Sys2Proof/Machine/RoomCommands.lean ====
section
/-! DEFINITION. The requests of the room monitor: SET_PROBE, DISABLE_PROBE, SET_ROOM, DISABLE_ROOM, READ_ROOM (chapter 1). -/

namespace Sys2Proof.Machine

/-! ### SET_PROBE (R1, R2) -/

def probeKindOf : Nat → Option ProbeKind
  | 0 => some .air | 1 => some .coil | _ => none

/-- The owner a byte names: a room for an AIR probe, a coil for a COIL probe. -/
def ownerOf (k : ProbeKind) (n : Nat) : Option Owner :=
  match k with
  | .air => (idOf 8 n).map .room
  | .coil => (idOf 16 n).map .coil

/-- The range checks of R1 on the four calibration values. -/
def Calib.inRange (c : Calib) : Bool :=
  decide (1 ≤ c.loCount ∧ c.hiCount ≤ 4094 ∧ c.loCount < c.hiCount) &&
    decide (Config.tempMin ≤ c.loRef ∧ c.loRef ≤ Config.tempMax ∧ Config.tempMin ≤ c.hiRef ∧ c.hiRef ≤ Config.tempMax) &&
    decide (c.loRef ≠ c.hiRef)

/-- The owner of a probe is enabled. -/
def State.ownerEnabled (s : State) : Owner → Bool
  | .room r => (s.room r).enabled
  | .coil c => (s.coil c).enabled

/-- The owner has no place for another probe: a room with 4 enabled AIR probes, a coil with an enabled COIL probe. -/
def State.ownerFull (s : State) : Owner → Bool
  | .room r => decide (4 ≤ (s.airProbes r).length)
  | .coil c => allProbes.any fun n => (s.probe n).enabled && (s.probe n).coil == some c

/-- Another enabled probe names the node entry and channel. -/
def State.channelTaken (s : State) (n : ProbeId) (e : EntryId) (ch : Fin 4) : Bool :=
  allProbes.any fun m => decide (m ≠ n) && (s.probe m).enabled && (s.probe m).node == some e && (s.probe m).channel == ch

/-- The notice that a COIL probe is now the probe of a coil (R72). -/
def noticeCoilProbe (o : Owner) (probe : Option ProbeId) (s : State) : State :=
  match o with
  | .coil c => s.modCoil c fun x => { x with probe := probe, temp := none }
  | .room _ => s

/-- SET_PROBE on a disabled record whose values are in range (R1). -/
def enableProbe (n : ProbeId) (e : EntryId) (ch : Fin 4) (k : ProbeKind) (o : Owner) (cal : Calib) (s : State) : Answer :=
  if (s.node e).kind ≠ some .probe then answer .notFound s
  else if s.channelTaken n e ch then answer .duplicate s
  else if !s.ownerEnabled o then answer .notEnabled s
  else if s.ownerFull o then answer .full s
  else
    answer .ok
      (noticeCoilProbe o (some n)
        (s.modProbe n fun _ =>
          { enabled := true, node := some e, channel := ch, kind := k, owner := some o, cal := some cal, cond := .stale,
            value := none, clamped := false }))

/-- SET_PROBE on an enabled record whose values are in range (R2). -/
def recalibrate (n : ProbeId) (e : EntryId) (ch : Fin 4) (k : ProbeKind) (o : Owner) (cal : Calib) (s : State) : Answer :=
  let x := s.probe n
  if x.node = some e ∧ x.channel = ch ∧ x.kind = k ∧ x.owner = some o then
    answer .ok (s.modProbe n fun x => { x with cal := some cal })
  else answer .state s

/-- SET_PROBE (R1, R2). -/
def handleSetProbe (q : ProbeReq) (s : State) : Answer :=
  match idOf 64 q.probe, idOf 48 q.node, idOf 4 q.channel, probeKindOf q.kind with
  | some n, some e, some ch, some k =>
    match ownerOf k q.owner with
    | some o =>
      if !q.cal.inRange then answer .range s
      else if (s.probe n).enabled then recalibrate n e ch k o q.cal s
      else enableProbe n e ch k o q.cal s
    | none => answer .range s
  | _, _, _, _ => answer .range s

/-- SET_PROBE (R1, R2). -/
def execSetProbe (p : PortId) (s : State) : Host.Outcome State Fault Refusal := takeRequest 0x10 parseProbeReq handleSetProbe p s

/-! ### DISABLE_PROBE (R2) -/

/-- Disables an enabled probe (R2). -/
def disableProbe (n : ProbeId) (s : State) : State :=
  let x := s.probe n
  let s := if x.cond = .fault then clearAlarm .probeFault n.val s else s
  let s := s.modProbe n fun x => { x with enabled := false, cond := .unused, clamped := false, value := none }
  match x.coil, x.room with
  | some c, _ => noticeCoilProbe (.coil c) none s
  | none, some r => if x.cond = .ok then loseIfNone r s else s
  | none, none => s

def handleDisableProbe (n : Nat) (s : State) : Answer :=
  match idOf 64 n with
  | none => answer .range s
  | some n => if !(s.probe n).enabled then answer .state s else answer .ok (disableProbe n s)

/-- DISABLE_PROBE (R2). -/
def execDisableProbe (p : PortId) (s : State) : Host.Outcome State Fault Refusal := takeRequest 0x11 parse1 handleDisableProbe p s

/-! ### SET_ROOM (R6, R7, R71) -/

/-- Every setting of a room within its range (R6). -/
def RoomCfg.inRange (c : RoomCfg) : Bool :=
  decide (Config.tempMin ≤ c.warn ∧ c.warn ≤ Config.tempMax) && decide (Config.tempMin ≤ c.alarm ∧ c.alarm ≤ Config.tempMax) &&
    decide (Config.tempMin ≤ c.critical ∧ c.critical ≤ Config.tempMax) && decide (c.hysteresis ≤ 50) && decide (c.shift ≤ 4) &&
    decide (c.surcharge ≤ 100) && decide (c.baseFrost ≤ 255) && decide (1 ≤ c.concurrency ∧ c.concurrency ≤ 3)

/-- The thresholds rise (R6). -/
def RoomCfg.ordered (c : RoomCfg) : Bool := decide (c.warn < c.alarm ∧ c.alarm < c.critical)

/-- Enables a room in its start state (R6). -/
def startRoom (r : RoomId) (cfg : RoomCfg) (s : State) : State :=
  raiseAlarm .roomNoProbe r.val (some cfg.warn)
    (s.modRoom r fun _ =>
      { enabled := true, cfg := cfg, filter := none, temp := cfg.warn, band := .normal, probeLost := true, tempAlarm := .none,
        defrosting := false })

/-- A threshold differs. -/
def RoomCfg.thresholdsDiffer (a b : RoomCfg) : Bool := a.warn != b.warn || a.alarm != b.alarm || a.critical != b.critical

/-- Applies new settings to an enabled room (R7); the waiting list is then evaluated (R71). DESIGN CHOICE: every setting is written before the
band is evaluated, so that a new report-falls flag applies to a fall that the same SET_ROOM makes (log entry 31). -/
def resetRoomCfg (r : RoomId) (cfg : RoomCfg) (s : State) : State :=
  let x := s.room r
  let s1 := s.modRoom r fun x => { x with cfg := cfg }
  let moved := cfg.thresholdsDiffer x.cfg
  let s2 :=
    if x.probeLost then
      if moved && x.filter.isNone then s1.modRoom r fun x => { x with temp := cfg.warn } else s1
    else if moved || cfg.hysteresis != x.cfg.hysteresis then evaluateBand r s1
    else s1
  settle s [r] [] s2

def handleSetRoom (q : RoomReq) (s : State) : Answer :=
  match idOf 8 q.room, yesNoOf q.reportFalls with
  | some r, some _ =>
    if !q.cfg.inRange then answer .range s
    else if !q.cfg.ordered then answer .range s
    else if q.cfg.concurrency < s.defrostingCount r then answer .inUse s
    else if (s.room r).enabled then answer .ok (resetRoomCfg r q.cfg s)
    else answer .ok (startRoom r q.cfg s)
  | _, _ => answer .range s

/-- SET_ROOM (R6, R7, R71). -/
def execSetRoom (p : PortId) (s : State) : Host.Outcome State Fault Refusal := takeRequest 0x12 parseRoomReq handleSetRoom p s

/-! ### DISABLE_ROOM (R8) -/

/-- An enabled bay, coil, AIR probe or lane belongs to the room (R8). -/
def State.roomInUse (s : State) (r : RoomId) : Bool :=
  !(s.baysOf r).isEmpty || !(s.coilsOf r).isEmpty || !(s.airProbes r).isEmpty ||
    allLanes.any fun l => (s.lane l).enabled && (s.lane l).room == r

/-- Disables a room (R8); its frost carry becomes 0 (R71). -/
def disableRoom (r : RoomId) (s : State) : State :=
  let x := s.room r
  let s := clearRoomAlarm r s
  let s := if x.probeLost then clearAlarm .roomNoProbe r.val s else s
  (s.modRoom r fun x =>
      { x with enabled := false, filter := none, temp := x.cfg.warn, band := .normal, probeLost := false, tempAlarm := .none,
               defrosting := false }).modDefrost r fun x => { x with carry := 0 }

def handleDisableRoom (n : Nat) (s : State) : Answer :=
  match idOf 8 n with
  | none => answer .range s
  | some r =>
    if !(s.room r).enabled then answer .state s else if s.roomInUse r then answer .inUse s else answer .ok (disableRoom r s)

/-- DISABLE_ROOM (R8). -/
def execDisableRoom (p : PortId) (s : State) : Host.Outcome State Fault Refusal := takeRequest 0x13 parse1 handleDisableRoom p s

/-! ### READ_ROOM (R19) -/

/-- The settings of a room in a response (R19). -/
def RoomCfg.bytes (c : RoomCfg) : List Byte :=
  i2 c.warn ++ i2 c.alarm ++ i2 c.critical ++ w1 c.hysteresis.toNat ++ w1 c.shift ++ w1 c.surcharge.toNat ++ yn c.reportFalls ++
    w2 c.baseFrost ++ w1 c.concurrency

/-- An AIR probe in a READ_ROOM response (R19). -/
def Probe.bytes (n : ProbeId) (p : Probe) : List Byte :=
  w1 n.val ++ w1 ((p.node.map (·.val)).getD 0) ++ w1 p.channel.val ++ w1 p.cond.code ++ optional 2 (p.value.map i2) ++ yn p.clamped

/-- The READ_ROOM record (R19). -/
def State.roomRecord (s : State) (r : RoomId) : List Byte :=
  let x := s.room r
  payloadOf
    ((yn x.enabled ++ x.cfg.bytes ++ optional 2 (x.filter.map i2) ++ i2 x.temp ++ w1 x.band.code ++ yn x.probeLost ++
        w1 x.tempAlarm.code ++ yn x.defrosting) ::
      listItems ((s.airProbes r).map fun n => (s.probe n).bytes n))

def handleReadRoom (n : Nat) (s : State) : Answer :=
  match idOf 8 n with
  | none => answer .range s
  | some r => answerWith (s.roomRecord r) s

/-- READ_ROOM (R19). -/
def execReadRoom (p : PortId) (s : State) : Host.Outcome State Fault Refusal := takeRequest 0x14 parse1 handleReadRoom p s

end Sys2Proof.Machine
end

