-- ==== Sys2Proof/Machine/Dispatch.lean ====
section
/-! DEFINITION. What each command does: one arm per constructor, one meaning per arm. -/

namespace Sys2Proof.Machine

def exec (i : Instr) (s : State) : Host.Outcome State Fault Refusal :=
  match i with
  | .setProbe p => Sys2Proof.Machine.execSetProbe p s
  | .disableProbe p => Sys2Proof.Machine.execDisableProbe p s
  | .setRoom p => Sys2Proof.Machine.execSetRoom p s
  | .disableRoom p => Sys2Proof.Machine.execDisableRoom p s
  | .readRoom p => Sys2Proof.Machine.execReadRoom p s
  | .setBay p => Sys2Proof.Machine.execSetBay p s
  | .disableBay p => Sys2Proof.Machine.execDisableBay p s
  | .bayRequest p => Sys2Proof.Machine.execBayRequest p s
  | .bayRelease p => Sys2Proof.Machine.execBayRelease p s
  | .bayExtend p => Sys2Proof.Machine.execBayExtend p s
  | .bayLockout p => Sys2Proof.Machine.execBayLockout p s
  | .readBay p => Sys2Proof.Machine.execReadBay p s
  | .setLoadTable p => Sys2Proof.Machine.execSetLoadTable p s
  | .setRoomBudgets p => Sys2Proof.Machine.execSetRoomBudgets p s
  | .readLoad p => Sys2Proof.Machine.execReadLoad p s
  | .setCoil p => Sys2Proof.Machine.execSetCoil p s
  | .disableCoil p => Sys2Proof.Machine.execDisableCoil p s
  | .setFrostPeriod p => Sys2Proof.Machine.execSetFrostPeriod p s
  | .defrostRequest p => Sys2Proof.Machine.execDefrostRequest p s
  | .defrostWithdraw p => Sys2Proof.Machine.execDefrostWithdraw p s
  | .defrostEnd p => Sys2Proof.Machine.execDefrostEnd p s
  | .readCoil p => Sys2Proof.Machine.execReadCoil p s
  | .receive p => Sys2Proof.Machine.execReceive p s
  | .admitPallet p => Sys2Proof.Machine.execAdmitPallet p s
  | .remove p => Sys2Proof.Machine.execRemove p s
  | .releaseHold p => Sys2Proof.Machine.execReleaseHold p s
  | .depart p => Sys2Proof.Machine.execDepart p s
  | .setLane p => Sys2Proof.Machine.execSetLane p s
  | .disableLane p => Sys2Proof.Machine.execDisableLane p s
  | .readLane p => Sys2Proof.Machine.execReadLane p s
  | .readPallet p => Sys2Proof.Machine.execReadPallet p s
  | .setExposurePeriod p => Sys2Proof.Machine.execSetExposurePeriod p s
  | .readExposure p => Sys2Proof.Machine.execReadExposure p s
  | .orderCreate p => Sys2Proof.Machine.execOrderCreate p s
  | .orderCancel p => Sys2Proof.Machine.execOrderCancel p s
  | .orderResume p => Sys2Proof.Machine.execOrderResume p s
  | .orderClear p => Sys2Proof.Machine.execOrderClear p s
  | .readOrder p => Sys2Proof.Machine.execReadOrder p s
  | .fetchOrder p => Sys2Proof.Machine.execFetchOrder p s
  | .pick p => Sys2Proof.Machine.execPick p s
  | .drop p => Sys2Proof.Machine.execDrop p s
  | .abandon p => Sys2Proof.Machine.execAbandon p s
  | .ackAlarm p => Sys2Proof.Machine.execAckAlarm p s
  | .readAlarms p => Sys2Proof.Machine.execReadAlarms p s
  | .readSummary p => Sys2Proof.Machine.execReadSummary p s
  | .setAttentionMask p => Sys2Proof.Machine.execSetAttentionMask p s
  | .setProbeNode p => Sys2Proof.Machine.execSetProbeNode p s
  | .setBayNode p => Sys2Proof.Machine.execSetBayNode p s
  | .setLine p => Sys2Proof.Machine.execSetLine p s
  | .lineRestart p => Sys2Proof.Machine.execLineRestart p s
  | .readNode p => Sys2Proof.Machine.execReadNode p s
  | .readResetCause p => Sys2Proof.Machine.execReadResetCause p s
  | .portReset p => Sys2Proof.Machine.execPortReset p s
  | .unknownRequest p => Sys2Proof.Machine.execUnknownRequest p s
  | .selectionEnd p sdi => Sys2Proof.Machine.execSelectionEnd p sdi s
  | .longSelPulse p sdi => Sys2Proof.Machine.execLongSelPulse p sdi s
  | .fullResetBegin cause => Sys2Proof.Machine.execFullResetBegin cause s
  | .fullResetComplete straps => Sys2Proof.Machine.execFullResetComplete straps s
  | .dockClockTick => Sys2Proof.Machine.execDockClockTick s
  | .frostPeriodExpiry => Sys2Proof.Machine.execFrostPeriodExpiry s
  | .exposurePeriodExpiry => Sys2Proof.Machine.execExposurePeriodExpiry s
  | .seatTimerExpiry b => Sys2Proof.Machine.execSeatTimerExpiry b s
  | .grantLapse b => Sys2Proof.Machine.execGrantLapse b s
  | .openLimitExpiry b => Sys2Proof.Machine.execOpenLimitExpiry b s
  | .waitTimerExpiry c => Sys2Proof.Machine.execWaitTimerExpiry c s
  | .defrostTimerExpiry c => Sys2Proof.Machine.execDefrostTimerExpiry c s
  | .heatConfirmExpiry c => Sys2Proof.Machine.execHeatConfirmExpiry c s
  | .linePassStart => Sys2Proof.Machine.execLinePassStart s
  | .pollSent => Sys2Proof.Machine.execPollSent s
  | .statusFrameReceived rx => Sys2Proof.Machine.execStatusFrameReceived rx s
  | .replyWindowExpiry rx => Sys2Proof.Machine.execReplyWindowExpiry rx s
  | .selectionBegin p => Sys2Proof.Machine.execSelectionBegin p s

end Sys2Proof.Machine
end

