-- ==== Sys2Proof/Safety.lean ====
section
/-! DEFINITION. The terms that the statements use: a request in progress, its answer, what a filing, a lockout cause and a temperature alarm do, the
part of the state an event leaves standing, and what holds of every state a run reaches. -/

namespace Sys2Proof

/-! ### Requests and answers -/

/-- The port a request of the catalogue is taken on, and its code (section 10.2.1); the other commands are no requests of the catalogue. -/
def Instr.request : Instr → Option (PortId × Nat)
  | .setProbe p => some (p, 0x10)
  | .disableProbe p => some (p, 0x11)
  | .setRoom p => some (p, 0x12)
  | .disableRoom p => some (p, 0x13)
  | .readRoom p => some (p, 0x14)
  | .setBay p => some (p, 0x20)
  | .disableBay p => some (p, 0x21)
  | .bayRequest p => some (p, 0x22)
  | .bayRelease p => some (p, 0x23)
  | .bayExtend p => some (p, 0x24)
  | .bayLockout p => some (p, 0x25)
  | .readBay p => some (p, 0x26)
  | .setLoadTable p => some (p, 0x28)
  | .setRoomBudgets p => some (p, 0x29)
  | .readLoad p => some (p, 0x2A)
  | .setCoil p => some (p, 0x30)
  | .disableCoil p => some (p, 0x31)
  | .setFrostPeriod p => some (p, 0x32)
  | .defrostRequest p => some (p, 0x33)
  | .defrostWithdraw p => some (p, 0x34)
  | .defrostEnd p => some (p, 0x35)
  | .readCoil p => some (p, 0x36)
  | .receive p => some (p, 0x40)
  | .admitPallet p => some (p, 0x41)
  | .remove p => some (p, 0x42)
  | .releaseHold p => some (p, 0x43)
  | .depart p => some (p, 0x44)
  | .setLane p => some (p, 0x45)
  | .disableLane p => some (p, 0x46)
  | .readLane p => some (p, 0x47)
  | .readPallet p => some (p, 0x48)
  | .setExposurePeriod p => some (p, 0x4C)
  | .readExposure p => some (p, 0x4D)
  | .orderCreate p => some (p, 0x50)
  | .orderCancel p => some (p, 0x51)
  | .orderResume p => some (p, 0x52)
  | .orderClear p => some (p, 0x53)
  | .readOrder p => some (p, 0x54)
  | .fetchOrder p => some (p, 0x58)
  | .pick p => some (p, 0x59)
  | .drop p => some (p, 0x5A)
  | .abandon p => some (p, 0x5B)
  | .ackAlarm p => some (p, 0x60)
  | .readAlarms p => some (p, 0x61)
  | .readSummary p => some (p, 0x62)
  | .setAttentionMask p => some (p, 0x63)
  | .setProbeNode p => some (p, 0x70)
  | .setBayNode p => some (p, 0x71)
  | .setLine p => some (p, 0x72)
  | .lineRestart p => some (p, 0x73)
  | .readNode p => some (p, 0x74)
  | .readResetCause p => some (p, 0x7E)
  | .portReset p => some (p, 0x7F)
  | .unknownRequest _ | .selectionEnd _ _ | .longSelPulse _ _ | .fullResetBegin _ | .fullResetComplete _ | .dockClockTick | .frostPeriodExpiry
  | .exposurePeriodExpiry | .seatTimerExpiry _ | .grantLapse _ | .openLimitExpiry _ | .waitTimerExpiry _ | .defrostTimerExpiry _
  | .heatConfirmExpiry _ | .linePassStart | .pollSent | .statusFrameReceived _ | .replyWindowExpiry _ | .selectionBegin _ => none

/-- The payload lengths that the forms of a request of the catalogue have, by its code (R171): the sums of the lengths of the values that the
request's rule names. READ_PALLET has two forms, by id and by place. DESIGN CHOICE: the widths of the values to which R171 gives no form are those
of log entry 11. -/
def requestLengths : Nat → List Nat
  | 0x10 => [13] | 0x11 => [1] | 0x12 => [14] | 0x13 => [1] | 0x14 => [1]
  | 0x20 => [13] | 0x21 => [1] | 0x22 => [2] | 0x23 => [1] | 0x24 => [3] | 0x25 => [2] | 0x26 => [1]
  | 0x28 => [6] | 0x29 => [3] | 0x2A => [1]
  | 0x30 => [14] | 0x31 => [1] | 0x32 => [2] | 0x33 => [1] | 0x34 => [1] | 0x35 => [2] | 0x36 => [1]
  | 0x40 => [15] | 0x41 => [15] | 0x42 => [4] | 0x43 => [4] | 0x44 => [1] | 0x45 => [4] | 0x46 => [1] | 0x47 => [1] | 0x48 => [5, 4]
  | 0x4C => [2] | 0x4D => [0]
  | 0x50 => [13] | 0x51 => [2] | 0x52 => [2] | 0x53 => [2] | 0x54 => [2] | 0x58 => [0] | 0x59 => [6] | 0x5A => [8] | 0x5B => [2]
  | 0x60 => [5] | 0x61 => [1] | 0x62 => [0] | 0x63 => [1]
  | 0x70 => [3] | 0x71 => [3] | 0x72 => [4] | 0x73 => [0] | 0x74 => [1]
  | 0x7E => [0] | 0x7F => [0]
  | _ => []

namespace Machine

/-- The part is not held in reset, and the well-framed request with this code and payload is in progress on a port of this role (R162,
R170). -/
def State.asks (s : State) (p : PortId) (role : Role) (code : Nat) (payload : List Byte) : Prop :=
  s.hold = none ∧ (s.port p).role = role ∧ payload.length ≤ Config.payloadMax ∧
    (s.port p).request = some (BitVec.ofNat 8 code :: BitVec.ofNat 8 payload.length :: payload)

/-- A flag stands on every port of the roles given and on every MONITOR port (R144). -/
def State.flagged (s : State) (roles : List Role) (k : Flag) : Prop :=
  ∀ q, (s.port q).role = .monitor ∨ (s.port q).role ∈ roles → (s.port q).flags &&& k.bit = k.bit

/-- The alarm list is in order: at most 64 entries, no two for one kind and subject (R137). -/
def State.alarmsOk (s : State) : Prop :=
  s.alarms.length ≤ 64 ∧ s.alarms.Pairwise fun a b => ¬ (a.kind = b.kind ∧ a.subject = b.subject)

/-- From `s` to `t` an alarm has been raised: where the list had a place or an entry for it, its entry is ACTIVE_UNACKED, last raised at the
time of `s` (R138). -/
def Raises (s t : State) (k : AlarmKind) (subject : Nat) : Prop :=
  s.alarms.length < Config.alarmEntries ∨ (s.alarm k subject).isSome →
    ∃ e, t.alarm k subject = some e ∧ e.state = .activeUnacked ∧ e.last = s.clock

/-- The bay's condition is the one R27 gives it: LOST while its node is not ONLINE or its shutter is UNKNOWN, FAULT while that is FAULT, and else by
its seal. -/
def HasCondition (s : State) (x : Bay) : Prop :=
  let online := ∃ e, x.node = some e ∧ (s.node e).state = .online
  (¬ online ∨ x.shutter = .unknown → x.cond = .lost) ∧ (online → x.shutter = .fault → x.cond = .fault) ∧
    (online → x.shutter ≠ .unknown → x.shutter ≠ .fault →
      x.cond = match x.sealState with
        | .none => .noTruck
        | .seating => .seating
        | .sealed => .sealed
        | .leaking => .leaking)

/-- From `s` to `t` a request of origin ORDER has been filed for order `n`, of priority `pr`, at an enabled bay that is not ACTIVE or OVERDUE (R30,
R31, R57), and the queue served. A bay in NONE that no cause locks out is REQUESTED for the order, or GRANTED with it; a REQUESTED or GRANTED one
has it among its linked or granted orders, unless they are four. Orders that the event puts into EXCEPTION leave those lists (R58). -/
def FiledFor (s t : State) (b : BayId) (n pr : Nat) : Prop :=
  let x := s.bay b
  let y := t.bay b
  let excepted (m : Nat) : Prop := ∃ o, t.order m = some o ∧ o.state = .exception
  let left (all now : List Nat) : Prop := now.Sublist all ∧ ∀ m ∈ all, m ∈ now ∨ excepted m
  let joins (held : List Nat) : Prop := n ∉ held ∧ held.length < 4
  let full (held : List Nat) : Prop := n ∈ held ∨ (4 ≤ held.length ∧ ∀ m ∈ held, ¬ excepted m)
  (x.grant = .none → x.causes.any → y.grant = .none) ∧ (x.grant = .forced → y.grant = .forced) ∧
    (x.grant = .none → x.causes.any = false →
      (y.grant = .requested ∧ ∃ k, y.request = some { origin := .order, priority := pr, linked := [n], rank := k }) ∨
        (y.grant = .granted ∧ y.request = none ∧ y.granted = [n] ∧ y.grantedAt = some s.clock)) ∧
    (∀ q, x.grant = .requested → x.causes.any = false → x.request = some q →
      let ends (all : List Nat) (priority : Nat) : Prop :=
        (y.grant = .requested ∧ ∃ l, left all l ∧ y.request = some { q with linked := l, priority := priority }) ∨
          (y.grant = .granted ∧ y.request = none ∧ left all y.granted ∧ y.grantedAt = some s.clock)
      (joins q.linked → ends (q.linked ++ [n]) (max q.priority pr)) ∧ (full q.linked → ends q.linked q.priority)) ∧
    (x.grant = .granted → x.causes.any = false → y.grant = .granted ∧ y.grantedAt = x.grantedAt ∧
      (joins x.granted → left (x.granted ++ [n]) y.granted) ∧ (full x.granted → left x.granted y.granted))

/-- The order waits for bay `b` (R123): its waiting reason is BAY, and the bay is an endpoint of it, or its destination while it is CARRYING. -/
def WaitsFor (b : BayId) (o : Order) : Prop :=
  o.reason = some .bay ∧
    (o.state = .waiting ∧ (o.source = .bay b ∨ o.dest = .bay b) ∨ o.state = .carrying ∧ o.dest = .bay b)

/-- `os` are up to four of the orders of `all` that wait for bay `b` and are not left out, the earliest created first, and of those created together
the lowest number first (R44, R123). -/
def FirstWaiting (b : BayId) (out : Order → Prop) (all os : List Order) : Prop :=
  let first (a o : Order) : Prop := a.createdAt < o.createdAt ∨ (a.createdAt = o.createdAt ∧ a.num < o.num)
  (∀ o ∈ os, o ∈ all ∧ WaitsFor b o) ∧ os.Pairwise first ∧ os.length ≤ 4 ∧
    ∀ o ∈ all, WaitsFor b o → o ∈ os ∨ out o ∨ (os.length = 4 ∧ ∀ a ∈ os, first a o)

/-- No record in use holds the number for an order in EXCEPTION. -/
def State.unexcepted (t : State) (n : Nat) : Bool := (t.order n).all fun o => decide (o.state ≠ .exception)

/-- Bay `b` of `t` is REQUESTED by a record of origin ORDER that links the orders `os`, at the highest of their priorities, or GRANTED with them,
from `now` on, where that record has been served (R32, R44). An order in EXCEPTION has left the record or the grant (R58). -/
def RequestedFor (t : State) (b : BayId) (now : Nat) (os : List Order) : Prop :=
  let y := t.bay b
  let linked := (os.map Order.num).filter t.unexcepted
  (y.grant = .requested ∧
      ∃ k pr, y.request = some { origin := .order, priority := pr, linked := linked, rank := k } ∧
        (∃ o ∈ os, o.priority = pr) ∧ ∀ o ∈ os, o.priority ≤ pr) ∨
    (y.grant = .granted ∧ y.request = none ∧ y.granted = linked ∧ y.grantedAt = some now)

/-- From `s` to `t` the first lockout cause has taken back what bay `b` held (R43): its request, or its unused grant with grant time and deadline.
Each order in WAITING, READY or DISPATCHED of which the bay is an endpoint, those that the request or the grant named among them, is as its evaluation
leaves it: it waits with reason BAY, or is in EXCEPTION where a check before that applies (R120, R121). -/
def TakenBack (s t : State) (b : BayId) : Prop :=
  let x := s.bay b
  let y := t.bay b
  (x.grant = .requested → y.grant = .none ∧ y.request = none) ∧
    (x.grant = .granted → y.grant = .none ∧ y.granted = [] ∧ y.grantedAt = none ∧ y.deadline = none) ∧
    (x.grant = .requested ∨ x.grant = .granted → s.orders.Pairwise (fun o w => o.num ≠ w.num) →
      ∀ o ∈ s.orders, o.state = .waiting ∨ o.state = .ready ∨ o.state = .dispatched → o.source = .bay b ∨ o.dest = .bay b →
        let o' := s.evaluated .ready o
        t.order o.num = some o' ∧ (o'.state = .waiting ∧ o'.reason = some .bay ∨ o'.state = .exception))

/-- The alarm that R17's table gives for a room's band and for defrost in room. -/
def Room.calledAlarm (x : Room) : RoomAlarm :=
  match x.band, x.defrosting with
  | .normal, _ => .none
  | .warn, true => .none
  | .warn, false => .warn
  | .alarm, false => .alarm
  | .critical, false => .critical
  | .alarm, true | .critical, true => .warming

/-- From `s` to `t` the temperature alarm of room `r` has followed its band and defrost in room (R17, R18): defrost in room says whether a coil of it
defrosts, the recorded alarm is the one R17's table gives, and where that is another than before, the one recorded before is cleared, and the new
one raised with R as its value. -/
def TemperatureAlarmFollows (s t : State) (r : RoomId) : Prop :=
  let x := s.room r
  let y := t.room r
  (y.defrosting = true ↔ 0 < t.defrostingCount r) ∧ y.tempAlarm = y.calledAlarm ∧
    (y.tempAlarm ≠ x.tempAlarm →
      (∀ k, x.tempAlarm.kind = some k → s.alarmsOk → ∀ a, t.alarm k r.val = some a → a.state = .clearedUnacked) ∧
        ∀ k, y.tempAlarm.kind = some k → s.alarms.length ≤ 32 →
          Raises s t k r.val ∧ ∀ a, t.alarm k r.val = some a → a.value = some y.temp)

/-- The entries for the temperature alarms of room `r` are in `t` as they were in `s`. -/
def TemperatureAlarmStands (s t : State) (r : RoomId) : Prop :=
  s.alarms.length ≤ 32 →
    ∀ k ∈ [AlarmKind.roomWarn, .roomAlarm, .roomCritical, .defrostWarming], t.alarm k r.val = s.alarm k r.val

/-! ### What stands while an event settles -/

/-- A port context without its flags (R144). -/
def PortCtx.unsettled (c : PortCtx) : PortCtx := { c with flags := 0 }

/-- A room without what settling may change: its recorded alarm and its defrost mark (R17, R18). -/
def Room.unsettled (x : Room) : Room := { x with tempAlarm := .none, defrosting := false }

/-- A room load without what settling may change: committed load, defrosting coils, claim (R51, R53). -/
def RoomLoad.unsettled (x : RoomLoad) : RoomLoad := { x with committed := 0, coils := 0, claim := .none }

/-- A bay without what settling may change: its grant state, requests, grant time and deadline (R29 to R32). -/
def Bay.unsettled (x : Bay) : Bay :=
  { x with grant := .none, request := none, granted := [], grantedAt := none, deadline := none }

/-- A coil without what settling may change: its state, waiting and defrost times (R79, R80). -/
def Coil.unsettled (x : Coil) : Coil :=
  { x with state := .running, waitStart := none, delayed := false, defrostStart := none, heatOpen := false, heatConfirmed := false,
           waitExp := none, defrostExp := none, heatExp := none }

/-- A room's defrost state without what settling may change: the waiting list and the claim (R79). -/
def RoomDefrost.unsettled (x : RoomDefrost) : RoomDefrost := { x with waiting := [], claim := .none }

/-- An order without what a notice may change: its state, its reason and cause, its lead warned flag (R119 to R121). -/
def Order.unsettled (x : Order) : Order := { x with state := .waiting, reason := none, cause := none, leadWarned := false }

/-- The state without what the notices and the settling of an event may change: the port flags, the alarm list, and the fields the functions
above leave out. Two states that agree here agree on everything else: queue, clock, resets, port contexts, nodes, line, probes, settings,
pallets, lanes, truck lists, timers. -/
def State.unsettled (s : State) : State :=
  { s with ports := s.ports.map PortCtx.unsettled
           alarms := [], overflow := 0
           rooms := s.rooms.map Room.unsettled, loads := s.loads.map RoomLoad.unsettled
           bays := s.bays.map Bay.unsettled, coils := s.coils.map Coil.unsettled
           defrosts := s.defrosts.map RoomDefrost.unsettled, orders := s.orders.map Order.unsettled }

/-! ### What holds of every state a run reaches -/

/-- The coils are in order: a coil is DISABLED exactly while it is not enabled, a room's waiting list holds its PENDING coils, each once, and no
room has more coils defrosting than its effective concurrency (R69, R78). -/
def State.coilsOk (s : State) : Prop :=
  (∀ c, (s.coil c).enabled = false ↔ (s.coil c).state = .disabled) ∧
    (∀ r c, c ∈ (s.defrost r).waiting ↔ (s.coil c).state = .pending ∧ (s.coil c).room = r) ∧
    (∀ r, (s.defrost r).waiting.Nodup) ∧ ∀ r, s.defrostingCount r ≤ s.concurrencyOf r

/-- What the defrost controller has reported stands: a coil in use belongs to an enabled room, the load record's coils defrosting and both claims
are those of the room's coils and waiting list (R53, R70, R75), defrost in room says whether a coil of it defrosts (R18), and the recorded alarm is
the one R17's table gives for the band and for defrost in room. -/
def State.reportsOk (s : State) : Prop :=
  (∀ c, (s.coil c).enabled → (s.room (s.coil c).room).enabled) ∧
    ∀ r, (s.load r).coils = s.defrostingCount r ∧ (s.load r).claim = (s.defrost r).claim ∧
      ((s.defrost r).claim = .none ↔ (s.defrost r).waiting = []) ∧
      ((s.defrost r).claim = .hard ↔ ∃ c ∈ (s.defrost r).waiting, (s.coil c).cfg.alarmLevel ≤ (s.coil c).frost) ∧
      ((s.room r).defrosting = true ↔ 0 < s.defrostingCount r) ∧
      (s.room r).tempAlarm = (s.room r).calledAlarm

/-- The pallet records are in order: at most 512, no two with one id; a lane or truck list holds exactly the pallets whose place it is, each
once; a truck list holds at most 30, and a disabled lane none (R87, R88, R94 to R100). -/
def State.palletsOk (s : State) : Prop :=
  s.pallets.length ≤ 512 ∧ (s.pallets.Pairwise fun a b => a.id ≠ b.id) ∧
    (∀ ep id, id ∈ s.listAt ep ↔ ∃ x ∈ s.pallets, x.id = id ∧ x.place = ep.place) ∧ (∀ ep, (s.listAt ep).Nodup) ∧
    (∀ b, (s.truck b).pallets.length ≤ 30) ∧ ∀ l, (s.lane l).enabled = false → (s.lane l).pallets = []

/-- The flags of every pallet record in use are those its thresholds give: WARNED exactly while four times its exposure is at or above three times
its budget, HELD exactly while its exposure is at or above its budget and it is not RELEASED (R112). -/
def State.marksOk (s : State) : Prop :=
  ∀ x ∈ s.pallets,
    (x.warned = true ↔ 3 * x.budget ≤ 4 * x.exposure) ∧ (x.held = true ↔ x.budget ≤ x.exposure ∧ x.released = false)

/-- The order records are in order: at most 32, no two with one number, numbers 1 to 65,535; an order holds a pallet exactly while CARRYING and
an end time exactly once it has ended; the lanes and bays of an unfinished order are enabled (R116 to R118, R122, R124). -/
def State.ordersOk (s : State) : Prop :=
  s.orders.length ≤ 32 ∧ (s.orders.Pairwise fun a b => a.num ≠ b.num) ∧
    ∀ o ∈ s.orders, (1 ≤ o.num ∧ o.num ≤ 65535) ∧ (o.carried.isSome ↔ o.state = .carrying) ∧ (o.endedAt.isSome ↔ o.state.unfinished = false) ∧
      (o.state.unfinished → s.endpointEnabled o.source ∧ s.endpointEnabled o.dest)

/-- An order in READY or DISPATCHED, or in WAITING with a reason other than BAY, has each bay endpoint in ACTIVE or OVERDUE (R120, R127). -/
def State.readyOk (s : State) : Prop :=
  ∀ o ∈ s.orders, o.state = .ready ∨ o.state = .dispatched ∨ (o.state = .waiting ∧ o.reason ≠ some .bay) →
    ∀ b, o.source = .bay b ∨ o.dest = .bay b → (s.bay b).grant = .active ∨ (s.bay b).grant = .overdue

/-- The lanes are in order: a lane's reservations are those of the CARRYING orders whose destination it is, and with its pallets they fit its
depth while it is enabled (R95, R98). -/
def State.lanesOk (s : State) : Prop :=
  ∀ l, (s.lane l).reservations = (s.orders.filter fun o => o.state == .carrying && o.dest == .lane l).length ∧
    ((s.lane l).enabled → (s.lane l).pallets.length + (s.lane l).reservations ≤ (s.lane l).depth)

/-! ### What a change of lockout causes does -/

/-- From `s` to `t` each bay's grant state has followed its lockout causes (R43, R44): the first cause takes back a request or an unused grant; with
the last one cleared, a bay in NONE is requested for up to four of the orders that wait for it, where there are any; an open or forced bay keeps
its grant state. Where no first cause arose and no last one was cleared, a bay in NONE stays so, an unused grant stands, and a request stands or has
been served. -/
def LockoutsFollow (s t : State) : Prop :=
  ∀ b,
    let x := s.bay b
    let y := t.bay b
    (x.causes.any = false → y.causes.any → TakenBack s t b) ∧
      (x.causes.any → y.causes.any = false → x.grant = .none → s.ordersOk → s.readyOk →
        ∃ os, FirstWaiting b (fun o => t.unexcepted o.num = false) s.orders os ∧
          (os = [] → y.grant = .none) ∧ (os ≠ [] → RequestedFor t b s.clock os)) ∧
      (x.grant = .active ∨ x.grant = .overdue ∨ x.grant = .forced → y.grant = x.grant) ∧
      (x.causes.any = y.causes.any →
        (x.grant = .none → y.grant = .none) ∧
          (x.grant = .granted → y.grant = .granted ∧ y.grantedAt = x.grantedAt ∧ y.deadline = x.deadline) ∧
          (x.grant = .requested → y.grant = .requested ∨ (y.grant = .granted ∧ y.grantedAt = some s.clock)))

end Machine

end Sys2Proof
end

