-- ==== Sys2Proof/Certificates/Slice0/Obligations.lean ====
section
/-! DEFINITION. The statements for the provers, by the chapters of the spec. -/

open Sys2Proof Sys2Proof.Machine

/-! ### Probes and rooms (chapter 1) -/

/-- R3: a good reading of a calibrated probe is converted on the line through its two points, the quotient rounded to the nearest whole tenth
with halves away from zero, and clamped to −600 to +500; every other field of the record but the condition is kept. -/
def Obligations.GoodReadingIsConvertedOnTheLine : Prop :=
  ∀ (x : Probe) (cal : Calib) (count : Nat), x.cal = some cal → cal.loCount < cal.hiCount →
    ∃ q : Int,
      let num : Int := ((count : Int) - cal.loCount) * (cal.hiRef - cal.loRef)
      let den : Int := (cal.hiCount : Int) - cal.loCount
      let t := cal.loRef + q
      2 * |q * den - num| ≤ den ∧ (2 * |q * den - num| = den → |num| < |q * den|) ∧
        x.takeGood count =
          { x with cond := .ok, clamped := decide (t < -600 ∨ 500 < t)
                   value := some (if t < -600 then -600 else if 500 < t then 500 else t) }

/-- R10: the values that enter a room's mean are those of its enabled AIR probes in OK, each once for every probe that holds it; their mean is
their sum over their number, rounded to the nearest whole tenth, halves upward; with every value within −600 to +500, so is the mean. -/
def Obligations.RoomMeanIsNearestHalvesWarmer : Prop :=
  (∀ (s : State) (r : RoomId),
      let ok : Finset ProbeId := Finset.univ.filter fun n =>
        (s.probe n).enabled = true ∧ (s.probe n).kind = .air ∧ (s.probe n).owner = some (.room r) ∧ (s.probe n).cond = .ok ∧
          (s.probe n).value.isSome
      let sum : Int := ∑ n ∈ ok, (s.probe n).value.getD 0
      let m := meanOf (s.usable r)
      (∀ v, v ∈ s.usable r ↔
        ∃ n, (s.probe n).enabled ∧ (s.probe n).kind = .air ∧ (s.probe n).owner = some (.room r) ∧ (s.probe n).cond = .ok ∧
          (s.probe n).value = some v) ∧
        (∀ v, (s.usable r).count v = (ok.filter fun n => (s.probe n).value = some v).card) ∧ (s.usable r).length = ok.card ∧
        (ok.Nonempty → 2 * sum - ok.card < 2 * ok.card * m ∧ 2 * ok.card * m ≤ 2 * sum + ok.card)) ∧
    ∀ l : List Int, l ≠ [] →
      2 * l.sum - l.length < 2 * l.length * meanOf l ∧ 2 * l.length * meanOf l ≤ 2 * l.sum + l.length ∧
        ((∀ v ∈ l, -600 ≤ v ∧ v ≤ 500) → -600 ≤ meanOf l ∧ meanOf l ≤ 500)

/-- R9, R11 to R18, R42 to R44: an update of a room with an AIR probe in OK takes one filter step toward 16 × M (to it, when F is absent), rounds
F / 16 to R with halves upward, leaves the room without PROBE_LOST, ROOM_NO_PROBE cleared, and evaluates the band. A rise of the band, or a fall
while report-falls is set, sets ROOMS; a change makes the ROOM cause of the room's enabled bays follow it, on entering CRITICAL taking back the
requests and unused grants of bays without a cause, on leaving it having the requests of waiting orders filed again. The temperature alarm follows
the band: the one recorded before is cleared and the new one raised with R, a DEFROST_WARMING that stays is raised again at a change of band, and at
an unchanged band the entries stand. With no AIR probe in OK the room becomes PROBE_LOST, ROOM_NO_PROBE raised with the held R, and nothing else
changes. Settings and other rooms stand, and so does all that settling leaves alone. -/
def Obligations.RoomUpdateFiltersAndEvaluates : Prop :=
  ∀ (s : State) (r : RoomId),
    let x := s.room r
    let t := updateRoom r s
    let y := t.room r
    let seen := ∃ n, (s.probe n).enabled ∧ (s.probe n).kind = .air ∧ (s.probe n).owner = some (.room r) ∧ (s.probe n).cond = .ok
    (seen →
      ∃ f : Int,
        let m := 16 * meanOf (s.usable r)
        (∀ f0, x.filter = some f0 →
            2 ^ x.cfg.shift * (f - f0) ≤ m - f0 ∧ m - f0 < 2 ^ x.cfg.shift * (f - f0 + 1) ∧ (f0 ≤ f ∧ f ≤ m ∨ m ≤ f ∧ f ≤ f0)) ∧
          (x.filter = none → f = m) ∧
          y.filter = some f ∧ 16 * y.temp ≤ f + 8 ∧ f + 8 < 16 * y.temp + 16 ∧ y.probeLost = false ∧
          y.band = x.cfg.nextBand x.band y.temp ∧ y.cfg = x.cfg ∧ y.enabled = x.enabled ∧
          (∀ q, q ≠ r → t.room q = s.room q) ∧
          (x.band.code < y.band.code ∨ (y.band ≠ x.band ∧ x.cfg.reportFalls) → t.flagged [.plant, .dock] .rooms) ∧
          (x.probeLost → s.alarmsOk → ∀ e, t.alarm .roomNoProbe r.val = some e → e.state = .clearedUnacked) ∧
          (∀ b, (t.bay b).causes =
            if y.band ≠ x.band ∧ (s.bay b).enabled ∧ (s.bay b).room = r then
              { (s.bay b).causes with room := decide (y.band = .critical) }
            else (s.bay b).causes) ∧
          LockoutsFollow s t ∧
          (s.coilsOk → s.reportsOk → TemperatureAlarmFollows s t r ∧
            (y.band ≠ x.band → x.tempAlarm = .warming → y.tempAlarm = .warming → s.alarms.length ≤ 32 →
              Raises s t .defrostWarming r.val ∧ ∀ a, t.alarm .defrostWarming r.val = some a → a.value = some y.temp)) ∧
          (y.tempAlarm = x.tempAlarm → y.defrosting = x.defrosting → y.band = x.band ∨ y.tempAlarm = .none →
            TemperatureAlarmStands s t r) ∧
          t.unsettled =
            ({ s with bays := Vector.ofFn fun b => { s.bay b with causes := (t.bay b).causes } }.modRoom r fun x =>
              { x with filter := some f, temp := y.temp, band := y.band, probeLost := false }).unsettled) ∧
      (¬ seen →
        t = if x.probeLost then s
            else raiseAlarm .roomNoProbe r.val (some x.temp) (s.modRoom r fun x => { x with probeLost := true }))

/-- R15: the band rule. The upward band is the highest whose threshold R is at or above; above the current band it is taken at once, otherwise
the highest band at or below the current one whose threshold less the hysteresis R is at or above, NORMAL qualifying always. -/
def Obligations.BandRuleRisesAtOnceAndFallsWithHysteresis : Prop :=
  ∀ (c : RoomCfg) (band : Band) (t : Int), c.warn < c.alarm → c.alarm < c.critical → 0 ≤ c.hysteresis →
    c.nextBand band t =
      if c.critical ≤ t then .critical
      else if c.alarm ≤ t ∧ band ≠ .critical then .alarm
      else if c.warn ≤ t ∧ band = .normal then .warn
      else if band = .critical ∧ c.critical - c.hysteresis ≤ t then .critical
      else if (band = .critical ∨ band = .alarm) ∧ c.alarm - c.hysteresis ≤ t then .alarm
      else if band ≠ .normal ∧ c.warn - c.hysteresis ≤ t then .warn
      else .normal

/-- R4, R5, R9, R13, R16, R42 to R44, R72, R82: when a PROBE node's payload is delivered, each enabled probe that names the entry takes its
channel's reading, good or faulty, PROBE_FAULT clearing or raised; each room with an AIR probe among them is updated once, by the new readings,
and its bays' ROOM cause follows a changed band, and their requests and unused grants follow the causes; a coil takes its COIL probe's good
value, which in DEFROST or OVERRUN confirms the heat at the level. When the node is lost or disabled, each such probe becomes STALE, its
PROBE_FAULT clearing, and a room of which an AIR probe became so and which has none left in OK becomes PROBE_LOST. Every other probe, room and
coil stands, in both cases, and so does all that settling leaves alone. -/
def Obligations.PayloadAndLossSetProbeConditions : Prop :=
  ∀ (s : State) (e : EntryId) (payload : List Byte),
    let t := takeProbeStatus e payload s
    let l := loseProbeNode e s
    let good (n : ProbeId) : Prop :=
      channelValid payload (s.probe n).channel = true ∧ channelCount payload (s.probe n).channel ≠ 0 ∧
        channelCount payload (s.probe n).channel ≠ 4095
    let named (n : ProbeId) : Prop := (s.probe n).enabled = true ∧ (s.probe n).node = some e
    let airOf (r : RoomId) (n : ProbeId) : Prop := (s.probe n).kind = .air ∧ (s.probe n).owner = some (.room r)
    let coilOf (c : CoilId) (n : ProbeId) : Prop := (s.probe n).kind = .coil ∧ (s.probe n).owner = some (.coil c)
    let defrosts (c : CoilId) : Prop := (s.coil c).state = .defrost ∨ (s.coil c).state = .overrun
    (∀ n, ¬ named n → t.probe n = s.probe n ∧ l.probe n = s.probe n) ∧
      (∀ n, named n →
        (good n → t.probe n = (s.probe n).takeGood (channelCount payload (s.probe n).channel)) ∧
          (¬ good n → t.probe n = { s.probe n with cond := .fault }) ∧ l.probe n = { s.probe n with cond := .stale } ∧
          ((s.probe n).cond = .fault → s.alarmsOk →
            (good n → ∀ a, t.alarm .probeFault n.val = some a → a.state = .clearedUnacked) ∧
              ∀ a, l.alarm .probeFault n.val = some a → a.state = .clearedUnacked) ∧
          (¬ good n → (s.probe n).cond ≠ .fault → s.alarms.length + n.val < 64 → Raises s t .probeFault n.val)) ∧
      (∀ r, ((∃ n, named n ∧ airOf r n) →
            (t.room r).unsettled = ((updateRoom r { s with probes := t.probes }).room r).unsettled) ∧
          ((∀ n, ¬ (named n ∧ airOf r n)) → (t.room r).unsettled = (s.room r).unsettled)) ∧
      (∀ b, let r := (s.bay b).room
        (t.bay b).causes =
          if (s.bay b).enabled = true ∧ (t.room r).band ≠ (s.room r).band then
            { (s.bay b).causes with room := decide ((t.room r).band = .critical) }
          else (s.bay b).causes) ∧
      LockoutsFollow s t ∧
      (∀ c n, named n → coilOf c n → (∀ m, m ≠ n → ¬ (named m ∧ coilOf c m)) →
        (¬ good n → (t.coil c).temp = (s.coil c).temp ∧ (s.coilsOk → defrosts c → (t.coil c).heatConfirmed = (s.coil c).heatConfirmed)) ∧
          ∀ v, good n → (t.probe n).value = some v →
            (t.coil c).temp = some v ∧
              (s.coilsOk → defrosts c →
                (t.coil c).heatConfirmed = ((s.coil c).heatConfirmed || decide ((s.coil c).cfg.heatLevel ≤ v)) ∧
                  (s.alarmsOk → (s.coil c).heatConfirmed = false → (s.coil c).cfg.heatLevel ≤ v →
                    ∀ a, t.alarm .defrostNoHeat c.val = some a → a.state = .clearedUnacked))) ∧
      (∀ c, (∀ n, ¬ (named n ∧ coilOf c n)) →
        (t.coil c).temp = (s.coil c).temp ∧ (s.coilsOk → defrosts c → (t.coil c).heatConfirmed = (s.coil c).heatConfirmed)) ∧
      t.unsettled =
        { s with probes := t.probes, rooms := t.rooms
                 bays := Vector.ofFn fun b => { s.bay b with causes := (t.bay b).causes }
                 coils := Vector.ofFn fun c => { s.coil c with temp := (t.coil c).temp } }.unsettled ∧
      l = { s with probes := l.probes, rooms := l.rooms, alarms := l.alarms, overflow := l.overflow, ports := l.ports } ∧
      ∀ r,
        let lost := (∃ n, named n ∧ airOf r n ∧ (s.probe n).cond ≠ .stale) ∧
          ∀ n, (s.probe n).enabled = true → airOf r n → (s.probe n).cond = .ok → named n
        (lost → l.room r = { s.room r with probeLost := true } ∧
          ((s.room r).probeLost = false → s.alarms.length + r.val < 64 → Raises s l .roomNoProbe r.val)) ∧
          (¬ lost → l.room r = s.room r)

/-- R1, R2: SET_PROBE on a disabled record whose checks pass configures and enables it, STALE and without value, and a COIL probe becomes the
probe of its coil; on an enabled record, of an AIR or of a COIL probe, it replaces the calibration alone. DISABLE_PROBE clears PROBE_FAULT, makes
the record UNUSED, and takes a COIL probe from its coil, or has the room of the last OK AIR probe become PROBE_LOST. Nothing else changes. -/
def Obligations.ProbeRequestsConfigureAndDisable : Prop :=
  (∀ (s : State) (p : PortId) (n : ProbeId) (e : EntryId) (ch : Fin 4) (r : RoomId) (cal : Calib),
      s.asks p .plant 0x10 (w1 n.val ++ w1 e.val ++ w1 ch.val ++ w1 0 ++ w1 r.val ++ cal.bytes) → cal.inRange →
      (s.probe n).enabled = false → (s.node e).kind = some .probe → s.channelTaken n e ch = false → (s.room r).enabled →
      (s.airProbes r).length < 4 →
      exec (.setProbe p) s =
        .next (respond p (.bare .ok)
          (s.modProbe n fun _ =>
            { enabled := true, node := some e, channel := ch, kind := .air, owner := some (.room r), cal := some cal, cond := .stale,
              value := none, clamped := false }))) ∧
    (∀ (s : State) (p : PortId) (n : ProbeId) (e : EntryId) (ch : Fin 4) (c : CoilId) (cal : Calib),
      s.asks p .plant 0x10 (w1 n.val ++ w1 e.val ++ w1 ch.val ++ w1 1 ++ w1 c.val ++ cal.bytes) → cal.inRange →
      (s.probe n).enabled = false → (s.node e).kind = some .probe → s.channelTaken n e ch = false → (s.coil c).enabled →
      (∀ m, ¬ ((s.probe m).enabled ∧ (s.probe m).coil = some c)) →
      exec (.setProbe p) s =
        .next (respond p (.bare .ok)
          ((s.modProbe n fun _ =>
            { enabled := true, node := some e, channel := ch, kind := .coil, owner := some (.coil c), cal := some cal, cond := .stale,
              value := none, clamped := false }).modCoil c fun x => { x with probe := some n, temp := none }))) ∧
    (∀ (s : State) (p : PortId) (n : ProbeId) (e : EntryId) (r : RoomId) (cal : Calib),
      s.asks p .plant 0x10 (w1 n.val ++ w1 e.val ++ w1 (s.probe n).channel.val ++ w1 0 ++ w1 r.val ++ cal.bytes) → cal.inRange →
      (s.probe n).enabled → (s.probe n).node = some e → (s.probe n).kind = .air → (s.probe n).owner = some (.room r) →
      exec (.setProbe p) s = .next (respond p (.bare .ok) (s.modProbe n fun x => { x with cal := some cal }))) ∧
    (∀ (s : State) (p : PortId) (n : ProbeId) (e : EntryId) (c : CoilId) (cal : Calib),
      s.asks p .plant 0x10 (w1 n.val ++ w1 e.val ++ w1 (s.probe n).channel.val ++ w1 1 ++ w1 c.val ++ cal.bytes) → cal.inRange →
      (s.probe n).enabled → (s.probe n).node = some e → (s.probe n).kind = .coil → (s.probe n).owner = some (.coil c) →
      exec (.setProbe p) s = .next (respond p (.bare .ok) (s.modProbe n fun x => { x with cal := some cal }))) ∧
    ∀ (s : State) (p : PortId) (n : ProbeId), s.asks p .plant 0x11 (w1 n.val) → (s.probe n).enabled →
      let s1 := if (s.probe n).cond = .fault then clearAlarm .probeFault n.val s else s
      let s2 := s1.modProbe n fun x => { x with enabled := false, cond := .unused, clamped := false, value := none }
      (∀ c, (s.probe n).kind = .coil → (s.probe n).owner = some (.coil c) →
          exec (.disableProbe p) s =
            .next (respond p (.bare .ok) (s2.modCoil c fun x => { x with probe := none, temp := none }))) ∧
        ∀ r, (s.probe n).kind = .air → (s.probe n).owner = some (.room r) →
          exec (.disableProbe p) s =
            .next (respond p (.bare .ok)
              (if (s.probe n).cond = .ok ∧ s2.hasUsable r = false ∧ (s.room r).probeLost = false then
                raiseAlarm .roomNoProbe r.val (some (s.room r).temp) (s2.modRoom r fun x => { x with probeLost := true })
               else s2))

/-- R6, R8: SET_ROOM on a disabled room puts it in the start state with ROOM_NO_PROBE raised; DISABLE_ROOM of a room to which nothing enabled
belongs clears its alarms, makes its filter state absent, and keeps its settings. Nothing else changes, but that a disabled room's frost
carry is 0.
(The bytes of the settings: log entry 11.) -/
def Obligations.RoomStartsProbeLostAndIsDisabled : Prop :=
  (∀ (s : State) (p : PortId) (r : RoomId) (cfg : RoomCfg),
      s.asks p .plant 0x12 (w1 r.val ++ cfg.bytes) → cfg.inRange → cfg.warn < cfg.alarm → cfg.alarm < cfg.critical →
      0 ≤ cfg.hysteresis → 0 ≤ cfg.surcharge → (s.room r).enabled = false → s.defrostingCount r ≤ cfg.concurrency →
      exec (.setRoom p) s =
        .next (respond p (.bare .ok)
          (raiseAlarm .roomNoProbe r.val (some cfg.warn)
            (s.modRoom r fun _ =>
              { enabled := true, cfg := cfg, filter := none, temp := cfg.warn, band := .normal, probeLost := true,
                tempAlarm := .none, defrosting := false })))) ∧
    ∀ (s : State) (p : PortId) (r : RoomId),
      s.asks p .plant 0x13 (w1 r.val) → (s.room r).enabled →
      (∀ b, ¬ ((s.bay b).enabled ∧ (s.bay b).room = r)) → (∀ c, ¬ ((s.coil c).enabled ∧ (s.coil c).room = r)) →
      (∀ n, ¬ ((s.probe n).enabled ∧ (s.probe n).kind = .air ∧ (s.probe n).owner = some (.room r))) →
      (∀ l, ¬ ((s.lane l).enabled ∧ (s.lane l).room = r)) →
      let s1 := match (s.room r).tempAlarm.kind with
        | some k => clearAlarm k r.val s
        | none => s
      let s2 := if (s.room r).probeLost then clearAlarm .roomNoProbe r.val s1 else s1
      exec (.disableRoom p) s =
        .next (respond p (.bare .ok)
          ((s2.modRoom r fun x =>
              { x with enabled := false, filter := none, temp := x.cfg.warn, band := .normal, probeLost := false, tempAlarm := .none,
                       defrosting := false }).modDefrost r fun x => { x with carry := 0 }))

/-- R7, R16 to R18, R42 to R44: SET_ROOM on an enabled room writes its settings. A PROBE_LOST room keeps its band, and R but in the start state,
where new thresholds make R the warn threshold; another room has its band evaluated against R when a threshold or the hysteresis differs. A rise
of the band, or a fall while the new report-falls is set, sets ROOMS. A change makes the ROOM cause of the room's enabled bays follow it, and
only those causes change; the bays' requests and unused grants follow the causes, taken back on entering CRITICAL and filed again for waiting
orders on leaving it. The temperature alarm follows the band and defrost in room: the one recorded before is cleared, the new one raised with R.
What settling leaves alone otherwise stands.
(The bytes of the settings: log entry 11. The new report-falls at the fall that its own SET_ROOM makes: log entry 31.) -/
def Obligations.SetRoomAppliesSettingsAndBand : Prop :=
  ∀ (s : State) (p : PortId) (r : RoomId) (cfg : RoomCfg),
    s.asks p .plant 0x12 (w1 r.val ++ cfg.bytes) → cfg.inRange → cfg.warn < cfg.alarm → cfg.alarm < cfg.critical →
    0 ≤ cfg.hysteresis → 0 ≤ cfg.surcharge → (s.room r).enabled → s.defrostingCount r ≤ cfg.concurrency →
    let x := s.room r
    let moved := cfg.warn ≠ x.cfg.warn ∨ cfg.alarm ≠ x.cfg.alarm ∨ cfg.critical ≠ x.cfg.critical
    let band := if x.probeLost = false ∧ (moved ∨ cfg.hysteresis ≠ x.cfg.hysteresis) then cfg.nextBand x.band x.temp else x.band
    ∃ t, exec (.setRoom p) s = .next t ∧
      (∀ b, (t.bay b).causes =
        if band ≠ x.band ∧ (s.bay b).enabled ∧ (s.bay b).room = r then { (s.bay b).causes with room := decide (band = .critical) }
        else (s.bay b).causes) ∧
      LockoutsFollow s t ∧ (x.band.code < band.code ∨ (band ≠ x.band ∧ cfg.reportFalls) → t.flagged [.plant, .dock] .rooms) ∧
      (s.coilsOk → s.reportsOk → TemperatureAlarmFollows s t r ∧
        (band ≠ x.band → x.tempAlarm = .warming → (t.room r).tempAlarm = .warming → s.alarms.length ≤ 32 → Raises s t .defrostWarming r.val) ∧
        ((t.room r).tempAlarm = x.tempAlarm → (t.room r).defrosting = x.defrosting → band = x.band ∨ x.tempAlarm = .none →
          TemperatureAlarmStands s t r)) ∧
      t.unsettled =
        (respond p (.bare .ok)
          ({ s with bays := Vector.ofFn fun b => { s.bay b with causes := (t.bay b).causes } }.modRoom r fun y =>
            { y with cfg := cfg, band := band
                     temp := if x.probeLost = true ∧ x.filter = none ∧ moved then cfg.warn else y.temp })).unsettled

/-! ### Bays (chapter 2) -/

/-- R24 to R28, R34, R35, R38 to R40, R42 to R45, R47, R123: a delivered bay status gives the bay its shutter, pressure, seal by the table of
R26, seat timer, condition by R27, NODE cause and button count, and its grant state follows the shutter, BAY_FORCED raised at a forced opening
and it or BAY_OVERDUE cleared at a close. A bay open under the SEALED limit whose seal is not SEALED goes on under the UNSEALED limit, its
deadline computed again from its opening, ACTIVE or OVERDUE as that lies ahead or not; SEAL_LEAK is raised as a leaking seal and an open shutter
come to hold together, cleared as they stop, and else left. At a close the room's queue is served until its head does not fit, and then a request
of origin ORDER is filed for up to four of the orders that wait for the bay, the earliest created first, at the highest of their priorities,
where no cause stands. A changed button count files a LOCAL request of a closed bay in NONE that no cause locks out. While the shutter does not
open, a first cause (a FAULT, or a node that is not ONLINE) takes a request or an unused grant back, the orders of the bay waiting with reason
BAY; without one, a request and a grant stand as they are, with grant time and deadline; and a last cause cleared has a request filed for the
orders that wait for a bay in NONE, as at a close. The loss or disable of the bay's node holds its shutter, makes its condition LOST and sets the
NODE cause: a request or an unused grant is taken back where no cause stood, and an open or forced bay keeps its grant state and deadline. The
bay's identity, settings and other causes stand, in both cases, and so does all that settling leaves alone. -/
def Obligations.BayStatusIsTakenWhole : Prop :=
  (∀ (s : State) (b : BayId) (code pressure truck button : Byte),
      let x := s.bay b
      let t := takeBayStatus b code pressure truck button s
      let y := t.bay b
      let p := pressure.toNat
      let sl : Seal :=
        if truck = 0 then .none
        else if x.cfg.sealLevel ≤ p then .sealed
        else if x.sealState = .none ∨ x.sealState = .seating then .seating
        else if x.sealState = .sealed ∧ x.cfg.leakLevel ≤ p then .sealed
        else .leaking
      let online := ∃ e, x.node = some e ∧ (s.node e).state = .online
      let opened := code = 1 ∨ code = 2
      let stays := code ≠ 0 ∧ (x.grant = .active ∨ x.grant = .overdue)
      let sealLost := x.limitKind = some .sealed ∧ sl ≠ .sealed
      let leaked := x.sealState = .leaking ∧ (x.shutter = .open_ ∨ x.shutter = .moving)
      let leaks := sl = .leaking ∧ opened
      let cleared (k : AlarmKind) : Prop := s.alarmsOk → ∀ a, t.alarm k b.val = some a → a.state = .clearedUnacked
      let pressed := ∃ k, x.button = some k ∧ k ≠ button.toNat
      let orLocal (os : List Order) : Prop :=
        (os = [] → (¬ pressed → y.grant = .none) ∧ (pressed → y.grant = .requested ∧
          ∃ k, y.request = some { origin := .local_, priority := 0, linked := [], rank := k })) ∧
        (os ≠ [] → y.grant = .requested ∧ RequestedFor t b s.clock os)
      y.shutter = (if code = 0 then .closed else if code = 1 then .moving else if code = 2 then .open_ else .fault) ∧
        y.held = false ∧ y.pressure = p ∧ y.sealState = sl ∧
        y.seatStart = (if sl = .seating then (if x.sealState = .seating then x.seatStart else some s.clock) else none) ∧
        (¬ online → y.cond = .lost) ∧ (online → 2 < code.toNat → y.cond = .fault) ∧
        (online → code.toNat ≤ 2 →
          y.cond = match sl with
            | .none => .noTruck
            | .seating => .seating
            | .sealed => .sealed
            | .leaking => .leaking) ∧
        (y.causes.node = true ↔ ¬ online ∨ 2 < code.toNat) ∧ y.causes.master = x.causes.master ∧ y.causes.room = x.causes.room ∧
        y.button = some button.toNat ∧ y.enabled = x.enabled ∧ y.room = x.room ∧ y.node = x.node ∧ y.cfg = x.cfg ∧
        (opened → x.grant = .granted → y.grant = .active ∧ y.openedAt = some s.clock ∧ y.extUsed = 0 ∧ y.extTotal = 0 ∧
          y.limitKind = some (if sl = .sealed then .sealed else .unsealed) ∧
          y.deadline = some (min 4294967295 (s.clock + min (if sl = .sealed then x.cfg.sealedLimit else x.cfg.unsealedLimit) 14400))) ∧
        (opened → x.grant = .none ∨ x.grant = .requested → y.grant = .forced ∧ y.request = none ∧ Raises s t .bayForced b.val) ∧
        (code = 0 → x.grant = .active ∨ x.grant = .overdue ∨ x.grant = .forced →
          (y.grant = .none ∨ y.grant = .requested) ∧ y.openedAt = none ∧ y.limitKind = none ∧ y.deadline = none ∧ y.extUsed = 0 ∧
            y.extTotal = 0) ∧
        (code = 0 → x.grant = .active ∨ x.grant = .overdue ∨ x.grant = .forced → s.ordersOk →
          (∀ c, ((t.queueOf x.room).filter fun c => decide (c ≠ b)).head? = some c → t.fits x.room c = false) ∧
            (y.causes.any → y.grant = .none) ∧
            (y.causes.any = false → ∃ os, FirstWaiting b (fun _ => False) t.orders os ∧ orLocal os)) ∧
        (¬ opened → x.causes.any = false → y.causes.any → TakenBack s t b) ∧
        (¬ opened → x.causes.any ∨ y.causes.any = false →
          (x.grant = .requested → y.grant = .requested ∧ y.request = x.request) ∧
            (x.grant = .granted → y.grant = .granted ∧ y.granted = x.granted ∧ y.grantedAt = x.grantedAt ∧ y.deadline = x.deadline)) ∧
        (¬ opened → x.grant = .none → x.causes.any → y.causes.any = false → s.ordersOk →
          ∃ os, FirstWaiting b (fun _ => False) s.orders os ∧ orLocal os) ∧
        (¬ opened → x.grant = .none → y.causes.any ∨ (x.causes.any = false ∧ ¬ pressed) → y.grant = .none) ∧
        (code = 0 → (x.grant = .overdue → cleared .bayOverdue) ∧ (x.grant = .forced → cleared .bayForced)) ∧
        (code ≠ 0 → x.grant = .active ∨ x.grant = .overdue → y.grant = .active ∨ y.grant = .overdue) ∧
        (stays → y.openedAt = x.openedAt ∧ y.extUsed = x.extUsed ∧ y.extTotal = x.extTotal ∧
          (¬ sealLost → y.grant = x.grant ∧ y.limitKind = x.limitKind ∧ y.deadline = x.deadline) ∧
          (sealLost → y.limitKind = some .unsealed ∧ ∀ t0, x.openedAt = some t0 →
            let d := min 4294967295 (min (t0 + x.cfg.unsealedLimit + x.extTotal) (t0 + 14400))
            y.deadline = some d ∧ y.grant = (if d ≤ s.clock then .overdue else .active) ∧
              (x.grant = .active → d ≤ s.clock → Raises s t .bayOverdue b.val) ∧
              (x.grant = .overdue → s.clock < d → cleared .bayOverdue))) ∧
        (¬ leaked → leaks → s.alarms.length < 63 → Raises s t .sealLeak b.val) ∧ (leaked → ¬ leaks → cleared .sealLeak) ∧
        ((leaked ↔ leaks) → s.alarms.length < (if code = 0 then 60 else 64) → t.alarm .sealLeak b.val = s.alarm .sealLeak b.val) ∧
        (code ≠ 0 → x.grant = .forced → y.grant = .forced) ∧
        (code = 0 → x.grant = .none → y.causes.any = false → pressed →
          y.grant = .requested ∧
            (x.causes.any = false → ∃ k, y.request = some { origin := .local_, priority := 0, linked := [], rank := k })) ∧
        t.unsettled = (s.modBay b fun _ => y).unsettled) ∧
    ∀ (s : State) (e : EntryId) (b : BayId),
      (s.bay b).enabled → (s.bay b).node = some e → (∀ c, c ≠ b → (s.bay c).enabled → (s.bay c).node ≠ some e) →
      let x := s.bay b
      let y := (loseBayNode e s).bay b
      y.held = true ∧ y.cond = .lost ∧ y.causes = { x.causes with node := true } ∧
        (x.causes.any = false → TakenBack s (loseBayNode e s) b) ∧
        (x.causes.any ∨ (x.grant ≠ .requested ∧ x.grant ≠ .granted) → y.grant = x.grant ∧ y.deadline = x.deadline) ∧
        (loseBayNode e s).unsettled =
          (s.modBay b fun x => { x with held := true, cond := .lost, causes := { x.causes with node := true } }).unsettled

/-- R21, R23: SET_BAY on a disabled bay whose checks pass enables it in its start state; DISABLE_BAY of a bay in NONE with an empty truck list
and no unfinished order returns every field but settings, room and node entry to its reset value. Both set BAYS for DOCK and MONITOR, and
nothing else changes. -/
def Obligations.BayIsEnabledAndDisabled : Prop :=
  (∀ (s : State) (p : PortId) (b : BayId) (r : RoomId) (e : EntryId) (cfg : BayCfg),
      s.asks p .dock 0x20 (w1 b.val ++ w1 r.val ++ w1 e.val ++ cfg.bytes) → cfg.inRange → (s.bay b).enabled = false →
      (s.node e).kind = some .bay → (∀ c, c ≠ b → (s.bay c).enabled → (s.bay c).node ≠ some e) → (s.room r).enabled →
      exec (.setBay p) s =
        .next (respond p (.bare .ok)
          (setFlag [.dock] .bays
            (s.modBay b fun _ =>
              { enabled := true, room := r, node := some e, cfg := cfg, shutter := .unknown, held := false, pressure := 0,
                sealState := .none, seatStart := none, cond := .lost, grant := .none,
                causes := { master := false, node := true, room := decide ((s.room r).band = .critical) }, request := none,
                granted := [], grantedAt := none, openedAt := none, limitKind := none, deadline := none, extUsed := 0, extTotal := 0,
                button := none })))) ∧
    ∀ (s : State) (p : PortId) (b : BayId),
      s.asks p .dock 0x21 (w1 b.val) → (s.bay b).enabled → (s.bay b).grant = .none → (s.truck b).pallets = [] →
      (∀ o ∈ s.orders, o.state.unfinished → o.source ≠ .bay b ∧ o.dest ≠ .bay b) →
      exec (.disableBay p) s =
        .next (respond p (.bare .ok)
          (setFlag [.dock] .bays
            (s.modBay b fun x => { Bay.reset with room := x.room, node := x.node, cfg := x.cfg })))

/-- R22, R26, R27, R33, R35, R36, R38, R47: SET_BAY on an enabled bay writes its settings; a new room or node entry is taken only in NONE with
nothing held, a new node entry bringing back the start state of what its node reports; a running seat timer whose new expiry has come is taken at
once, with the condition, the limit kind and SEAL_LEAK following. A changed grant window moves the deadline of a GRANTED bay, which lapses where
that does not lie ahead, its orders in EXCEPTION with cause GRANT_LAPSED; a changed open limit, or the seal's loss, moves that of an open bay, which
is then ACTIVE or OVERDUE as it lies ahead or not, BAY_OVERDUE cleared or raised. Nothing that an
event's settling leaves alone changes elsewhere. -/
def Obligations.SetBayChangesAnEnabledBay : Prop :=
  ∀ (s : State) (p : PortId) (b : BayId) (r : RoomId) (e : EntryId) (cfg : BayCfg),
    s.asks p .dock 0x20 (w1 b.val ++ w1 r.val ++ w1 e.val ++ cfg.bytes) → cfg.inRange → (s.bay b).enabled →
    (s.node e).kind = some .bay → (∀ c, c ≠ b → (s.bay c).enabled → (s.bay c).node ≠ some e) → (s.room r).enabled →
    let x := s.bay b
    let moved := x.room ≠ r ∨ x.node ≠ some e
    (moved → x.grant = .none ∧ (s.truck b).pallets = [] ∧
      ∀ o ∈ s.orders, o.state.unfinished → o.source ≠ .bay b ∧ o.dest ≠ .bay b) →
    let start := x.node ≠ some e
    let ran := ¬ start ∧ cfg.seatTime ≠ x.cfg.seatTime ∧ ∃ t, x.seatStart = some t ∧ t + cfg.seatTime ≤ s.clock
    ∃ t, exec (.setBay p) s = .next t ∧
      (let y := t.bay b
       y.enabled = true ∧ y.room = r ∧ y.node = some e ∧ y.cfg = cfg ∧
        y.causes.master = x.causes.master ∧ y.causes.node = (if start then true else x.causes.node) ∧
        y.causes.room = (if x.room = r then x.causes.room else decide ((s.room r).band = .critical)) ∧
        y.shutter = (if start then .unknown else x.shutter) ∧ y.held = (if start then false else x.held) ∧
        y.pressure = (if start then 0 else x.pressure) ∧ y.button = (if start then none else x.button) ∧
        (start → y.sealState = .none ∧ y.seatStart = none ∧ y.cond = .lost) ∧
        (ran → y.sealState = (if x.sealState = .seating then .leaking else x.sealState) ∧ y.seatStart = none) ∧
        (¬ start → ¬ ran → y.sealState = x.sealState ∧ y.seatStart = x.seatStart ∧ y.cond = x.cond) ∧
        (ran → HasCondition s y) ∧
        y.openedAt = x.openedAt ∧ y.extUsed = x.extUsed ∧ y.extTotal = x.extTotal ∧
        (x.grant = .granted → cfg.grantWindow = x.cfg.grantWindow → y.grant = .granted ∧ y.deadline = x.deadline) ∧
        (∀ t0, x.grant = .granted → cfg.grantWindow ≠ x.cfg.grantWindow → x.grantedAt = some t0 →
          let d := min 4294967295 (t0 + cfg.grantWindow)
          (s.clock < d → y.grant = .granted ∧ y.deadline = some d) ∧
            (d ≤ s.clock → y.grant = .none ∧ y.granted = [] ∧ y.grantedAt = none ∧ y.deadline = none ∧
              ∀ n ∈ x.granted, ∀ o, s.order n = some o → o.state = .waiting ∨ o.state = .ready ∨ o.state = .dispatched →
                ∃ o', t.order n = some o' ∧ o'.state = .exception ∧ o'.cause = some .grantLapsed)) ∧
        (let lost := ran ∧ x.limitKind = some .sealed ∧ y.sealState ≠ .sealed
         let retimed := cfg.sealedLimit ≠ x.cfg.sealedLimit ∨ cfg.unsealedLimit ≠ x.cfg.unsealedLimit
         x.grant = .active ∨ x.grant = .overdue →
          (lost → y.limitKind = some .unsealed) ∧ (¬ lost → y.limitKind = x.limitKind) ∧
            (¬ lost → ¬ retimed → y.grant = x.grant ∧ y.deadline = x.deadline) ∧
            ∀ t0, lost ∨ retimed → x.openedAt = some t0 →
              let limit := if y.limitKind = some .sealed then cfg.sealedLimit else cfg.unsealedLimit
              let d := min 4294967295 (min (t0 + limit + x.extTotal) (t0 + 14400))
              y.deadline = some d ∧ y.grant = (if d ≤ s.clock then .overdue else .active) ∧
                (x.grant = .active → d ≤ s.clock → Raises s t .bayOverdue b.val) ∧
                (x.grant = .overdue → s.clock < d → s.alarmsOk → ∀ a, t.alarm .bayOverdue b.val = some a → a.state = .clearedUnacked)) ∧
        (ran → x.sealState ≠ .leaking → y.sealState = .leaking → x.shutter = .open_ ∨ x.shutter = .moving → s.alarms.length < 63 →
          Raises s t .sealLeak b.val)) ∧
      t.unsettled = (respond p (.bare .ok) (s.modBay b fun _ => t.bay b)).unsettled

/-- R30, R42: BAY_REQUEST for a bay in NONE files a request of origin DOCK at its priority, and the bay ends REQUESTED or, served at once,
GRANTED; the response gives which. While a lockout cause stands it is refused with LOCKED_OUT, the grant state NONE beside it, and nothing
changes. -/
def Obligations.BayRequestFilesOrIsLockedOut : Prop :=
  ∀ (s : State) (p : PortId) (b : BayId) (pr : Nat),
    s.asks p .dock 0x22 (w1 b.val ++ w1 pr) → pr ≤ 3 → (s.bay b).enabled → (s.bay b).grant = .none →
    ((s.bay b).causes.any →
        exec (.bayRequest p) s = .next (respond p { status := .lockedOut, payload := [0] } s)) ∧
      ((s.bay b).causes.any = false →
        ∃ t, exec (.bayRequest p) s = .next t ∧
          (((t.bay b).grant = .requested ∧ (t.port p).response = some { status := .ok, payload := [1] } ∧
              ∃ k, (t.bay b).request = some { origin := .dock, priority := pr, linked := [], rank := k } ∧
                ∀ c q, (s.bay c).request = some q → q.rank < k) ∨
            ((t.bay b).grant = .granted ∧ (t.port p).response = some { status := .ok, payload := [2] } ∧
              (t.bay b).request = none ∧ (t.bay b).grantedAt = some s.clock ∧
              (t.bay b).deadline = some (min (s.clock + (s.bay b).cfg.grantWindow) 4294967295))) ∧
          t.flagged [.dock] .bays ∧
          t.unsettled = (respond p { status := .ok, payload := w1 (t.bay b).grant.code } s).unsettled)

/-- R41: BAY_RELEASE of a REQUESTED or GRANTED bay returns it to NONE without record, grant time or deadline, and puts the orders it held that
are WAITING, READY or DISPATCHED into EXCEPTION with cause RELEASED. -/
def Obligations.BayReleaseGivesUpTheBay : Prop :=
  ∀ (s : State) (p : PortId) (b : BayId),
    s.asks p .dock 0x23 (w1 b.val) → (s.bay b).enabled → (s.bay b).grant = .requested ∨ (s.bay b).grant = .granted →
    let held := if (s.bay b).grant = .requested then (((s.bay b).request.map (·.linked)).getD []) else (s.bay b).granted
    ∃ t, exec (.bayRelease p) s = .next t ∧
      (t.bay b).grant = .none ∧ (t.bay b).request = none ∧ (t.bay b).granted = [] ∧ (t.bay b).grantedAt = none ∧
      (t.bay b).deadline = none ∧ t.flagged [.dock] .bays ∧
      (∀ n ∈ held, ∀ o, s.order n = some o → o.state = .waiting ∨ o.state = .ready ∨ o.state = .dispatched →
        ∃ o', t.order n = some o' ∧ o'.state = .exception ∧ o'.cause = some .released) ∧
      t.unsettled = (respond p (.bare .ok) s).unsettled

/-- R35, R37: BAY_EXTEND raises the extensions used and their total, and the new deadline is the opening plus the limit in force plus the
total, at most the opening plus 14,400 s and at most the clock's maximum; the bay is ACTIVE if it lies ahead, BAY_OVERDUE clearing
where it was OVERDUE, and OVERDUE otherwise, BAY_OVERDUE raised where it was ACTIVE. The response carries the deadline. -/
def Obligations.BayExtendMovesTheDeadline : Prop :=
  ∀ (s : State) (p : PortId) (b : BayId) (secs t0 : Nat),
    s.asks p .dock 0x24 (w1 b.val ++ w2 secs) → 1 ≤ secs → secs ≤ 3600 → (s.bay b).enabled →
    (s.bay b).grant = .active ∨ (s.bay b).grant = .overdue → (s.bay b).causes.any = false → (s.bay b).extUsed < 3 →
    (s.bay b).openedAt = some t0 →
    let x := s.bay b
    let limit := if x.limitKind = some .sealed then x.cfg.sealedLimit else x.cfg.unsealedLimit
    let d := min (min (t0 + limit + (x.extTotal + secs)) (t0 + 14400)) 4294967295
    ∃ t, exec (.bayExtend p) s = .next t ∧
      (t.bay b).grant = (if d ≤ s.clock then .overdue else .active) ∧ (t.bay b).deadline = some d ∧
      (x.grant = .active → d ≤ s.clock → Raises s t .bayOverdue b.val) ∧
      (x.grant = .overdue → s.clock < d → s.alarmsOk → ∀ a, t.alarm .bayOverdue b.val = some a → a.state = .clearedUnacked) ∧
      ((x.grant = .overdue ↔ d ≤ s.clock) → s.alarms.length ≤ 32 → t.alarm .bayOverdue b.val = s.alarm .bayOverdue b.val) ∧
      (t.port p).response = some { status := .ok, payload := w4 d } ∧
      t.unsettled =
        (respond p { status := .ok, payload := w4 d }
          (s.modBay b fun x => { x with extUsed := x.extUsed + 1, extTotal := x.extTotal + secs })).unsettled

/-- R42 to R44, R120, R121, R123: BAY_LOCKOUT sets or clears the MASTER cause alone. Set on a bay without cause, it takes an unused grant or a
request back, the bay going to NONE and its orders in WAITING, READY or DISPATCHED waiting with reason BAY; an open or forced bay keeps its grant
state. Cleared as the last cause of a bay in NONE, it has a request of origin ORDER filed for up to four of the orders that wait for the bay, the
earliest created first, at the highest of their priorities; it stands REQUESTED, or GRANTED where it is served at once.
(An order that the filing's notice puts into EXCEPTION leaves the request. The byte of the cause to be set: log entry 11.) -/
def Obligations.BayLockoutSetsTheMasterCause : Prop :=
  ∀ (s : State) (p : PortId) (b : BayId) (set : Bool),
    s.asks p .dock 0x25 (w1 b.val ++ w1 set.toNat) → (s.bay b).enabled →
    ∃ t, exec (.bayLockout p) s = .next t ∧
      (t.bay b).causes = { (s.bay b).causes with master := set } ∧ LockoutsFollow s t ∧
      ((s.bay b).causes.master ≠ set → t.flagged [.dock] .bays) ∧
      (set = false → (s.bay b).causes = { master := true, node := false, room := false } → (s.bay b).grant = .none → s.ordersOk →
        ∃ os, FirstWaiting b (fun _ => False) s.orders os ∧ (os = [] → (t.bay b).grant = .none) ∧
          (os ≠ [] → RequestedFor t b s.clock os)) ∧
      t.unsettled = (respond p (.bare .ok) (s.modBay b fun x => { x with causes := (t.bay b).causes })).unsettled

/-- R26, R27, R33, R35, R36, R38, R47: a due seat timer makes a SEATING seal LEAKING and stops; the condition follows, an open bay under the SEALED
limit goes on under the UNSEALED one with its deadline computed again, ACTIVE or OVERDUE as that lies ahead or not, and SEAL_LEAK is raised for an
open shutter. A due grant window returns a GRANTED bay to NONE with its
orders in EXCEPTION, cause GRANT_LAPSED; a due open limit makes an ACTIVE bay OVERDUE with BAY_OVERDUE raised, its opening and deadline kept. -/
def Obligations.BayTimersExpire : Prop :=
  (∀ (s : State) (b : BayId) (t0 : Nat),
      s.hold = none → (s.bay b).seatStart = some t0 → t0 + (s.bay b).cfg.seatTime ≤ s.clock →
      ∃ t, exec (.seatTimerExpiry b) s = .next t ∧
        (t.bay b).sealState = (if (s.bay b).sealState = .seating then .leaking else (s.bay b).sealState) ∧
        (t.bay b).seatStart = none ∧
        (((s.bay b).grant = .active ∨ (s.bay b).grant = .overdue) → (s.bay b).limitKind = some .sealed →
          (t.bay b).sealState ≠ .sealed → (t.bay b).limitKind = some .unsealed) ∧
        HasCondition s (t.bay b) ∧
        (let x := s.bay b
         let y := t.bay b
         let open_ := x.grant = .active ∨ x.grant = .overdue
         let lost := open_ ∧ x.limitKind = some .sealed ∧ y.sealState ≠ .sealed
         let leaked := x.sealState = .leaking ∧ (x.shutter = .open_ ∨ x.shutter = .moving)
         let leaks := y.sealState = .leaking ∧ (x.shutter = .open_ ∨ x.shutter = .moving)
         (¬ lost → y.limitKind = x.limitKind ∧ (open_ → y.grant = x.grant ∧ y.deadline = x.deadline)) ∧
          (∀ o, lost → x.openedAt = some o →
            let d := min 4294967295 (min (o + x.cfg.unsealedLimit + x.extTotal) (o + 14400))
            y.deadline = some d ∧ y.grant = (if d ≤ s.clock then .overdue else .active) ∧
              (x.grant = .active → d ≤ s.clock → Raises s t .bayOverdue b.val) ∧
              (x.grant = .overdue → s.clock < d → s.alarmsOk → ∀ a, t.alarm .bayOverdue b.val = some a → a.state = .clearedUnacked)) ∧
          (¬ leaked → leaks → s.alarms.length < 63 → Raises s t .sealLeak b.val) ∧
          ((leaked ↔ leaks) → s.alarms.length ≤ 32 → t.alarm .sealLeak b.val = s.alarm .sealLeak b.val)) ∧
        t.unsettled =
          (s.modBay b fun x =>
            { x with sealState := (t.bay b).sealState, seatStart := none, cond := (t.bay b).cond,
                     limitKind := (t.bay b).limitKind }).unsettled) ∧
    (∀ (s : State) (b : BayId) (d : Nat),
      s.hold = none → (s.bay b).grant = .granted → (s.bay b).deadline = some d → d ≤ s.clock →
      ∃ t, exec (.grantLapse b) s = .next t ∧
        (t.bay b).grant = .none ∧ (t.bay b).granted = [] ∧ (t.bay b).grantedAt = none ∧ (t.bay b).deadline = none ∧
        t.flagged [.dock] .bays ∧
        (∀ n ∈ (s.bay b).granted, ∀ o, s.order n = some o → o.state = .waiting ∨ o.state = .ready ∨ o.state = .dispatched →
          ∃ o', t.order n = some o' ∧ o'.state = .exception ∧ o'.cause = some .grantLapsed) ∧
        t.unsettled = s.unsettled) ∧
    ∀ (s : State) (b : BayId) (d : Nat),
      s.hold = none → (s.bay b).grant = .active → (s.bay b).deadline = some d → d ≤ s.clock →
      ∃ t, exec (.openLimitExpiry b) s = .next t ∧
        (t.bay b).grant = .overdue ∧ (t.bay b).deadline = some d ∧ Raises s t .bayOverdue b.val ∧ t.flagged [.dock] .bays ∧
        t.unsettled = s.unsettled

/-! ### The bay load and the grant queue (chapter 3) -/

/-- R50, R52: SET_LOAD_TABLE replaces the six weights, SET_ROOM_BUDGETS the two budgets of its room, a disabled one included. Both set BAYS for
DOCK and MONITOR; what an event's settling leaves alone stands. -/
def Obligations.LoadTableAndBudgetsAreWritten : Prop :=
  (∀ (s : State) (p : PortId) (w : LoadTable),
      s.asks p .dock 0x28 (w.weights.flatMap w1) → (∀ n ∈ w.weights, n ≤ 63) →
      ∃ t, exec (.setLoadTable p) s = .next t ∧ t.flagged [.dock] .bays ∧
        t.unsettled = (respond p (.bare .ok) { s with loadTable := w }).unsettled) ∧
    ∀ (s : State) (p : PortId) (r : RoomId) (normal defrost : Nat),
      s.asks p .dock 0x29 (w1 r.val ++ w1 normal ++ w1 defrost) → normal ≤ 255 → defrost ≤ normal →
      ∃ t, exec (.setRoomBudgets p) s = .next t ∧ t.flagged [.dock] .bays ∧
        t.unsettled = (respond p (.bare .ok) (s.modLoad r fun x => { x with normal := normal, defrost := defrost })).unsettled

/-- R54, R56, R59, R60: a room's grant queue holds each of its REQUESTED bays once and no other, and any record ahead of another is urgent where
the other is not, or of equal urgency and higher priority, or of equal urgency and priority and no higher arrival rank. A record's effective
budget is the defrost budget while a coil defrosts, under a HARD claim, or, not urgent, under a SOFT one, and the normal budget otherwise. -/
def Obligations.QueueOrderAndEffectiveBudget : Prop :=
  ∀ (s : State) (r : RoomId), (∀ b, (s.bay b).grant = .requested → (s.bay b).request.isSome) →
    (s.queueOf r).Nodup ∧
      (∀ b, b ∈ s.queueOf r ↔ (s.bay b).enabled ∧ (s.bay b).room = r ∧ (s.bay b).grant = .requested) ∧
      ((s.queueOf r).Pairwise fun a b =>
        ∀ x y, (s.bay a).request = some x → (s.bay b).request = some y →
          (s.urgent x = true ∧ s.urgent y = false) ∨
            (s.urgent x = s.urgent y ∧ (y.priority < x.priority ∨ (x.priority = y.priority ∧ x.rank ≤ y.rank)))) ∧
      ∀ b q, (s.bay b).request = some q →
        let x := s.load r
        let urgent := ∃ n ∈ q.linked, ∃ o, s.order n = some o ∧ o.leadWarned = true
        ((1 ≤ x.coils ∨ x.claim = .hard ∨ x.claim = .soft ∧ ¬ urgent) → s.budgetFor r b = x.defrost) ∧
          (¬ (1 ≤ x.coils ∨ x.claim = .hard ∨ x.claim = .soft ∧ ¬ urgent) → s.budgetFor r b = x.normal)

/-- R51, R61, R62: serving a room's queue ends with the queue empty or with a head that does not fit its effective budget; it takes no bay out
of a committed state and grants only bays that were waiting in that queue. It goes head by head: a head that does not fit ends it at once; where
the grant would carry the load above the defrost budget under a claim, the waiting list is evaluated first, and the head must fit again; a head
that fits is granted, the committed load rises by its weight to no more than its effective budget, and the serving goes on with the next. -/
def Obligations.ServingEndsAtAHeadThatDoesNotFit : Prop :=
  ∀ (s : State) (r : RoomId), (s.load r).committed = s.loadSum r →
    let t := serveQueue r s
    let fits (u : State) (b : BayId) : Prop := (u.load r).committed + u.loadTable.weight (u.bay b).cond ≤ u.budgetFor r b
    (t.load r).committed = t.loadSum r ∧
      (∀ b, (t.queueOf r).head? = some b → t.budgetFor r b < (t.load r).committed + t.weightOf b) ∧
      (∀ b, (t.bay b).grant ≠ (s.bay b).grant → b ∈ s.queueOf r ∧ (t.bay b).grant = .granted) ∧
      (s.queueOf r = [] → t = s) ∧
      ∀ b rest, s.queueOf r = b :: rest →
        let u := if (s.load r).defrost < (s.load r).committed + s.loadTable.weight (s.bay b).cond ∧ (s.load r).claim ≠ .none then
            evaluateWaiting r s
          else s
        let g := grantHead r b u
        (¬ fits s b → t = s) ∧ (fits s b → ¬ fits u b → t = u) ∧
          (fits s b → fits u b →
            t = serveQueue r g ∧ (g.bay b).grant = .granted ∧ (∀ c, c ≠ b → (g.bay c).grant = (s.bay c).grant) ∧
              (g.load r).committed = (s.load r).committed + s.loadTable.weight (s.bay b).cond ∧
              (g.load r).committed ≤ u.budgetFor r b)

/-- R51: in every room the committed load is the sum of the weights of its bays in GRANTED, ACTIVE, OVERDUE or FORCED; every step keeps it so,
whatever the command. -/
def Obligations.CommittedLoadIsKeptByEveryStep : Prop :=
  ∀ s t : State, (∀ r, (s.load r).committed = s.loadSum r) → step s = .next t → ∀ r, (t.load r).committed = t.loadSum r
/-! ### Coils, frost and defrost (chapter 4) -/

/-- R67, R69, R76, R80: SET_COIL on a disabled coil whose checks pass enables it RUNNING, without frost, probe or timers; DISABLE_COIL of a coil
in a room without a defrost, which no enabled COIL probe names, returns its record to reset but for settings and room, FROST_HIGH clearing where
its frost is at or above its frost-alarm level, and DEFROST_DELAYED where it is PENDING with its delayed flag set. Both set DEFROST for PLANT,
DOCK and MONITOR. -/
def Obligations.CoilIsEnabledAndDisabled : Prop :=
  (∀ (s : State) (p : PortId) (c : CoilId) (r : RoomId) (cfg : CoilCfg),
      s.coilsOk → s.asks p .plant 0x30 (w1 c.val ++ w1 r.val ++ cfg.bytes) → cfg.inRange → cfg.requestLevel < cfg.alarmLevel →
      (s.coil c).enabled = false → (s.room r).enabled → (s.coilsOf r).length < 4 →
      ∃ t, exec (.setCoil p) s = .next t ∧ t.coil c = { Coil.reset with enabled := true, room := r, cfg := cfg, state := .running } ∧
        t.flagged [.plant, .dock] .defrost ∧
        t.unsettled =
          (respond p (.bare .ok) (s.modCoil c fun _ => { Coil.reset with enabled := true, room := r, cfg := cfg })).unsettled) ∧
    ∀ (s : State) (p : PortId) (c : CoilId),
      s.coilsOk → s.asks p .plant 0x31 (w1 c.val) → (s.coil c).enabled → s.defrostingCount (s.coil c).room = 0 →
      (∀ n, ¬ ((s.probe n).enabled ∧ (s.probe n).coil = some c)) →
      ∃ t, exec (.disableCoil p) s = .next t ∧
        t.coil c = { Coil.reset with room := (s.coil c).room, cfg := (s.coil c).cfg } ∧ (∀ r, c ∉ (t.defrost r).waiting) ∧
        (let x := s.coil c
         let high := x.cfg.alarmLevel ≤ x.frost
         let delayed := x.state = .pending ∧ x.delayed = true
         (s.alarmsOk → (high → ∀ a, t.alarm .frostHigh c.val = some a → a.state = .clearedUnacked) ∧
            (delayed → ∀ a, t.alarm .defrostDelayed c.val = some a → a.state = .clearedUnacked)) ∧
          (s.alarms.length ≤ 32 → (¬ high → t.alarm .frostHigh c.val = s.alarm .frostHigh c.val) ∧
            (¬ delayed → t.alarm .defrostDelayed c.val = s.alarm .defrostDelayed c.val))) ∧
        t.flagged [.plant, .dock] .defrost ∧
        t.unsettled =
          (respond p (.bare .ok) (s.modCoil c fun x => { Coil.reset with room := x.room, cfg := x.cfg })).unsettled

/-- R68, R80, R81, R83: SET_COIL on an enabled coil writes its settings, works the due flag out again, and moves the expiries of a running wait,
of a running defrost and of an open heat check, one at or before now being taken at once, with its alarm. FROST_HIGH is raised where the frost
index is at or above the new frost-alarm level but was below the old, cleared where it is below the new but was at or above the old, and else
left. Frost, probe and room stand. -/
def Obligations.SetCoilChangesAnEnabledCoil : Prop :=
  ∀ (s : State) (p : PortId) (c : CoilId) (cfg : CoilCfg),
    s.coilsOk → s.asks p .plant 0x30 (w1 c.val ++ w1 (s.coil c).room.val ++ cfg.bytes) → cfg.inRange →
    cfg.requestLevel < cfg.alarmLevel → (s.coil c).enabled → (s.room (s.coil c).room).enabled →
    let x := s.coil c
    let was := x.cfg.alarmLevel ≤ x.frost
    let high := cfg.alarmLevel ≤ x.frost
    ∃ t, exec (.setCoil p) s = .next t ∧
      (¬ was → high → Raises s t .frostHigh c.val) ∧
      (was → ¬ high → s.alarmsOk → ∀ a, t.alarm .frostHigh c.val = some a → a.state = .clearedUnacked) ∧
      ((was ↔ high) → s.alarms.length ≤ 32 → t.alarm .frostHigh c.val = s.alarm .frostHigh c.val) ∧
      (x.state = .running ∨ x.state = .overrun → (t.coil c).state = x.state) ∧
      (x.state = .pending → (t.coil c).state = .pending ∨ (t.coil c).state = .defrost) ∧
      (∀ t0, x.state = .pending → (t.coil c).state = .pending → x.waitStart = some t0 → cfg.maxWait ≠ x.cfg.maxWait →
        let e := min (t0 + cfg.maxWait) 4294967295
        (t.coil c).waitExp = some e ∧ (t.coil c).delayed = decide (e ≤ s.clock) ∧
          (e ≤ s.clock → x.delayed = false → s.alarms.length ≤ 32 → Raises s t .defrostDelayed c.val) ∧
          (s.clock < e → x.delayed = true → s.alarmsOk → ∀ a, t.alarm .defrostDelayed c.val = some a → a.state = .clearedUnacked)) ∧
      (∀ t0, x.state = .defrost → x.defrostStart = some t0 → cfg.maxDefrost ≠ x.cfg.maxDefrost →
        let e := min (t0 + cfg.maxDefrost) 4294967295
        (t.coil c).defrostExp = some e ∧ (t.coil c).state = (if e ≤ s.clock then .overrun else .defrost) ∧
          (e ≤ s.clock → s.alarms.length ≤ 32 → Raises s t .defrostOverrun c.val)) ∧
      (∀ t0, x.state = .defrost ∨ x.state = .overrun → x.heatOpen = true → x.defrostStart = some t0 → cfg.heatTime ≠ x.cfg.heatTime →
        let e := min (t0 + cfg.heatTime) 4294967295
        (t.coil c).heatExp = some e ∧ (t.coil c).heatOpen = decide (s.clock < e) ∧
          (e ≤ s.clock → x.probe ≠ none → x.heatConfirmed = false → s.alarms.length ≤ 32 → Raises s t .defrostNoHeat c.val)) ∧
      t.unsettled =
        (respond p (.bare .ok) (s.modCoil c fun x => { x with cfg := cfg, due := decide (cfg.requestLevel ≤ x.frost) })).unsettled

/-- R73 to R76: SET_FROST_PERIOD writes the period of the next period start alone. At a due frost period expiry the next period begins, and in
each enabled room every RUNNING or PENDING coil receives the base rate plus its share of the ingress, one more unit going to the lowest numbers
for the remainder, saturating at 65,535, its due flag following; with no such coil the ingress becomes the carry. The ingress is the sum of the
load-table weights of the room's enabled bays whose shutter is OPEN or MOVING, and the carry. FROST_HIGH is raised, with the frost index as value,
for each coil whose index comes from below its frost-alarm level to at or above it, and left for every other. -/
def Obligations.FrostPeriodDistributesIngress : Prop :=
  (∀ (s : State) (p : PortId) (secs : Nat), s.asks p .plant 0x32 (w2 secs) → 1 ≤ secs → secs ≤ 60 →
      exec (.setFrostPeriod p) s = .next (respond p (.bare .ok) { s with frostTimer := { s.frostTimer with period := secs } })) ∧
    ∀ s : State, s.hold = none → s.frostTimer.start + s.frostTimer.length ≤ s.clock →
      let runs (c : CoilId) : Prop := (s.coil c).enabled ∧ ((s.coil c).state = .running ∨ (s.coil c).state = .pending)
      let weight (x : Bay) : Nat :=
        match x.cond with
        | .sealed => s.loadTable.sealed
        | .seating => s.loadTable.seating
        | .leaking => s.loadTable.leaking
        | .noTruck => s.loadTable.noTruck
        | .fault => s.loadTable.fault
        | .lost => s.loadTable.lost
      let ingress (r : RoomId) : Nat :=
        (∑ b : BayId, if (s.bay b).enabled = true ∧ (s.bay b).room = r ∧ ((s.bay b).shutter = .open_ ∨ (s.bay b).shutter = .moving)
          then weight (s.bay b) else 0) + (s.defrost r).carry
      ∃ (n : RoomId → Nat) (place : CoilId → Nat) (t : State),
        let carry (r : RoomId) : Nat :=
          if (s.room r).enabled = false then (s.defrost r).carry else if n r = 0 then min 65535 (ingress r) else 0
        (∀ r, n r = (allCoils.filter fun c => (s.coil c).enabled && (s.coil c).room == r &&
          ((s.coil c).state == .running || (s.coil c).state == .pending)).length) ∧
        (∀ c, place c = (allCoils.filter fun d => decide (d < c) && (s.coil d).enabled && (s.coil d).room == (s.coil c).room &&
          ((s.coil d).state == .running || (s.coil d).state == .pending)).length) ∧
        exec .frostPeriodExpiry s = .next t ∧
        (∀ c, runs c → (s.room (s.coil c).room).enabled →
          let r := (s.coil c).room
          let i := ingress r
          let gets := (s.room r).cfg.baseFrost + i / n r + (if place c < i % n r then 1 else 0)
          (t.coil c).frost = min 65535 ((s.coil c).frost + gets) ∧
            (t.coil c).due = decide ((s.coil c).cfg.requestLevel ≤ (t.coil c).frost)) ∧
        (∀ c, ¬ (runs c ∧ (s.room (s.coil c).room).enabled) →
          (t.coil c).frost = (s.coil c).frost ∧ (t.coil c).due = (s.coil c).due) ∧
        (s.alarms.length ≤ 32 → ∀ c,
          let crosses := (s.coil c).frost < (s.coil c).cfg.alarmLevel ∧ (s.coil c).cfg.alarmLevel ≤ (t.coil c).frost
          (crosses → Raises s t .frostHigh c.val ∧ ∀ a, t.alarm .frostHigh c.val = some a → a.value = some ((t.coil c).frost : Int)) ∧
            (¬ crosses → t.alarm .frostHigh c.val = s.alarm .frostHigh c.val)) ∧
        t.unsettled =
          { s with frostTimer := { s.frostTimer with start := s.frostTimer.start + s.frostTimer.length, length := s.frostTimer.period }
                   coils := Vector.ofFn fun c => { s.coil c with frost := (t.coil c).frost, due := (t.coil c).due }
                   defrosts := Vector.ofFn fun r => { s.defrost r with carry := carry r } }.unsettled

/-- R77: an evaluation of a waiting list grants nothing while the committed load is above the defrost budget. Otherwise it grants waiting coils
up to the effective concurrency, and passes a coil over only when that is reached or when the band is ALARM or CRITICAL and its frost is below
its alarm level; no coil outside the list changes state. It walks the list from the earliest arrival: a coil is granted only where every earlier
one is granted or passed over for the band and its frost; those not granted stay on the list in their order. What settling leaves alone stands,
and so do bays and orders. -/
def Obligations.EvaluationGrantsByTheThreeConditions : Prop :=
  ∀ (s : State) (r : RoomId), s.coilsOk →
    let t := evaluateWaiting r s
    let warm := (s.room r).band = .alarm ∨ (s.room r).band = .critical
    let high (c : CoilId) : Prop := (s.coil c).cfg.alarmLevel ≤ (s.coil c).frost
    ((s.load r).defrost < (s.load r).committed → t = s) ∧
      t.defrostingCount r ≤ t.concurrencyOf r ∧
      (∀ c, c ∉ (s.defrost r).waiting → (t.coil c).state = (s.coil c).state) ∧
      ((s.defrost r).waiting.Pairwise fun c d =>
        (t.coil d).state = .defrost → (t.coil c).state = .defrost ∨ (warm ∧ ¬ high c)) ∧
      (t.defrost r).waiting = (s.defrost r).waiting.filter (fun c => decide ((t.coil c).state = .pending)) ∧
      t.unsettled = s.unsettled ∧ t.bays = s.bays ∧ t.orders = s.orders ∧
      ∀ c ∈ (s.defrost r).waiting,
        ((t.coil c).state = .defrost ∧ (t.coil c).defrostStart = some s.clock ∧ (¬ warm ∨ high c)) ∨
          ((t.coil c).state = .pending ∧
            ((s.load r).committed ≤ (s.load r).defrost → t.defrostingCount r = t.concurrencyOf r ∨ (warm ∧ ¬ high c)))

/-- R17, R18, R53, R69, R70, R75, R77, R78: a coil is DISABLED exactly while not enabled, a room's waiting list holds exactly its PENDING coils,
each once, and a room's defrosting coils never number more than its effective concurrency; every step keeps this, whatever the command. Every
step keeps with it that an enabled coil's room is enabled, that the load record's coils defrosting and claim are those of the room's coils and
waiting list, and that defrost in room and the recorded temperature alarm are those that the coils and the band give. -/
def Obligations.CoilsStayInOrder : Prop :=
  ∀ s t : State, s.coilsOk → step s = .next t → t.coilsOk ∧ (s.reportsOk → t.reportsOk)

/-- R17, R18, R78, R80: DEFROST_REQUEST of a RUNNING coil makes it PENDING at the end of its room's list from now, or DEFROST where the evaluation
grants it; the response gives which. Alone on the list, it is granted exactly when the load check, the concurrency and the band or its frost allow.
Where the room's first defrost begins so, its temperature alarm follows: the one recorded is cleared, and at ALARM or CRITICAL DEFROST_WARMING is
raised with R. Where none begins, or one is in progress, the entries stand. -/
def Obligations.DefrostRequestWaitsOrIsGranted : Prop :=
  ∀ (s : State) (p : PortId) (c : CoilId),
    s.coilsOk → s.asks p .plant 0x33 (w1 c.val) → (s.coil c).state = .running →
    let x := s.coil c
    let r := x.room
    ∃ t, exec (.defrostRequest p) s = .next t ∧ t.flagged [.plant, .dock] .defrost ∧
      (((t.coil c).state = .pending ∧ (t.defrost r).waiting.getLast? = some c ∧ (t.coil c).waitStart = some s.clock ∧
          (t.coil c).waitExp = some (min (s.clock + x.cfg.maxWait) 4294967295) ∧ (t.coil c).delayed = false ∧
          t.unsettled = (respond p { status := .ok, payload := [2] } s).unsettled) ∨
        ((t.coil c).state = .defrost ∧ (∀ q, c ∉ (t.defrost q).waiting) ∧ (t.coil c).waitStart = none ∧
          (t.coil c).defrostStart = some s.clock ∧ (t.coil c).defrostExp = some (s.clock + x.cfg.maxDefrost) ∧
          (t.coil c).heatExp = some (s.clock + x.cfg.heatTime) ∧ (t.coil c).heatOpen = true ∧ (t.coil c).heatConfirmed = false ∧
          t.unsettled = (respond p { status := .ok, payload := [3] } s).unsettled)) ∧
      (s.reportsOk → TemperatureAlarmFollows s t r ∧
        ((t.room r).defrosting = (s.room r).defrosting → TemperatureAlarmStands s t r)) ∧
      ((s.defrost r).waiting = [] →
        ((t.coil c).state = .defrost ↔
          s.loadSum r ≤ (s.load r).defrost ∧ s.defrostingCount r < s.concurrencyOf r ∧
            ((s.room r).band = .normal ∨ (s.room r).band = .warn ∨ x.cfg.alarmLevel ≤ x.frost)))

/-- R17, R18, R80, R84: DEFROST_WITHDRAW returns a PENDING coil to RUNNING, off the list and without wait, DEFROST_DELAYED clearing where its
flag is set; DEFROST_END returns a coil in DEFROST or OVERRUN to RUNNING, its timers stopped, DEFROST_OVERRUN and DEFROST_NO_HEAT clearing, and
sets its frost to 0 and its due flag to clear, FROST_HIGH clearing, but after ABORTED, which leaves the three. The temperature alarm follows
defrost in room: where the room's last defrost ends, the one recorded is cleared and that of the band is raised with R; while another goes on,
the entries stand.
(The bytes of the three outcomes: log entry 11. A last defrost whose end has another granted at once: log entry 34.) -/
def Obligations.DefrostIsWithdrawnAndEnded : Prop :=
  (∀ (s : State) (p : PortId) (c : CoilId),
      s.coilsOk → s.asks p .plant 0x34 (w1 c.val) → (s.coil c).state = .pending →
      ∃ t, exec (.defrostWithdraw p) s = .next t ∧
        t.coil c = { s.coil c with state := .running, waitStart := none, waitExp := none, delayed := false } ∧
        (∀ r, c ∉ (t.defrost r).waiting ∧ (t.defrost r).waiting.Sublist (s.defrost r).waiting) ∧
        ((s.coil c).delayed = true → s.alarmsOk → ∀ a, t.alarm .defrostDelayed c.val = some a → a.state = .clearedUnacked) ∧
        (let r := (s.coil c).room
         s.reportsOk → TemperatureAlarmFollows s t r ∧
          ((t.room r).defrosting = (s.room r).defrosting → TemperatureAlarmStands s t r)) ∧
        t.flagged [.plant, .dock] .defrost ∧ t.unsettled = (respond p (.bare .ok) s).unsettled) ∧
    ∀ (s : State) (p : PortId) (c : CoilId) (out : Nat),
      s.coilsOk → s.asks p .plant 0x35 (w1 c.val ++ w1 out) → out ≤ 2 → (s.coil c).state = .defrost ∨ (s.coil c).state = .overrun →
      let frost := if out = 2 then (s.coil c).frost else 0
      let due := if out = 2 then (s.coil c).due else false
      ∃ t, exec (.defrostEnd p) s = .next t ∧
        t.coil c =
          { s.coil c with state := .running, frost := frost, due := due, defrostStart := none, heatOpen := false,
                          heatConfirmed := false, defrostExp := none, heatExp := none } ∧
        (s.alarmsOk →
          let cleared (k : AlarmKind) : Prop := ∀ a, t.alarm k c.val = some a → a.state = .clearedUnacked
          cleared .defrostOverrun ∧ cleared .defrostNoHeat ∧ (out ≠ 2 → cleared .frostHigh)) ∧
        (out = 2 → s.alarms.length ≤ 32 → t.alarm .frostHigh c.val = s.alarm .frostHigh c.val) ∧
        (let r := (s.coil c).room
         s.reportsOk → TemperatureAlarmFollows s t r ∧
          (1 < s.defrostingCount r ∨ (s.room r).band = .normal → TemperatureAlarmStands s t r)) ∧
        t.flagged [.plant, .dock] .defrost ∧
        t.unsettled =
          (respond p { status := .ok, payload := w2 frost } (s.modCoil c fun x => { x with frost := frost, due := due })).unsettled

/-- R80, R81, R83: a due wait timer of a PENDING coil raises DEFROST_DELAYED once; a due defrost timer makes a coil in DEFROST OVERRUN with
DEFROST_OVERRUN raised; a due heat-confirm timer closes the open heat check and raises DEFROST_NO_HEAT for a coil with a COIL probe and no
confirmed heat. -/
def Obligations.CoilTimersExpire : Prop :=
  (∀ (s : State) (c : CoilId) (e : Nat), s.hold = none → (s.coil c).state = .pending → (s.coil c).waitExp = some e → e ≤ s.clock →
      exec (.waitTimerExpiry c) s =
        .next (if (s.coil c).delayed then s
               else raiseAlarm .defrostDelayed c.val (some (s.coil c).frost) (s.modCoil c fun x => { x with delayed := true }))) ∧
    (∀ (s : State) (c : CoilId) (e : Nat), s.coilsOk → s.hold = none → (s.coil c).state = .defrost → (s.coil c).defrostExp = some e →
      e ≤ s.clock →
      ∃ t, exec (.defrostTimerExpiry c) s = .next t ∧ t.coil c = { s.coil c with state := .overrun } ∧
        Raises s t .defrostOverrun c.val ∧ t.flagged [.plant, .dock] .defrost ∧ t.unsettled = s.unsettled) ∧
    ∀ (s : State) (c : CoilId) (e : Nat), s.hold = none → (s.coil c).state = .defrost ∨ (s.coil c).state = .overrun →
      (s.coil c).heatOpen = true → (s.coil c).heatExp = some e → e ≤ s.clock →
      let s1 := s.modCoil c fun x => { x with heatOpen := false }
      exec (.heatConfirmExpiry c) s =
        .next (if (s.coil c).probe ≠ none ∧ (s.coil c).heatConfirmed = false then raiseAlarm .defrostNoHeat c.val (s.coil c).temp s1
               else s1)


/-! ### Pallets, lanes and truck lists (chapter 5) -/

/-- R88 to R90: RECEIVE at an open bay and ADMIT into a lane with a free position take a new pallet into use at the back of the list, with the
flags its exposure gives it and their alarms raised; the response gives its position and flags. What settling leaves alone otherwise stands.
(The width of the position: log entry 11.) -/
def Obligations.PalletIsAdmittedAtTheBack : Prop :=
  (∀ (s : State) (p : PortId) (b : BayId) (id budget exposure : Nat) (limit : Int),
      s.asks p .dock 0x40 (w1 b.val ++ w4 id ++ i2 limit ++ w4 budget ++ w4 exposure) → 1 ≤ id → id ≤ 99999999 → -400 ≤ limit →
      limit ≤ 100 → 1 ≤ budget → budget ≤ 4294967295 → exposure ≤ 4294967295 → (s.bay b).enabled →
      (s.bay b).grant = .active ∨ (s.bay b).grant = .overdue → (s.truck b).pallets.length < 30 → s.pallets.length < 512 →
      (∀ x ∈ s.pallets, x.id ≠ id) →
      let warned := decide (3 * budget ≤ 4 * exposure)
      let held := decide (budget ≤ exposure)
      let x : Pallet := { id := id, limit := limit, budget := budget, exposure := exposure, place := .truck b, warned := warned,
                          held := held, released := false, admittedAt := s.clock }
      ∃ t, exec (.receive p) s = .next t ∧ (warned → Raises s t .palletWarn id) ∧
        (held → s.alarms.length < 63 → Raises s t .palletHeld id) ∧
        t.unsettled =
          (respond p { status := .ok, payload := w1 (s.truck b).pallets.length ++ yn warned ++ yn held }
            ({ s with pallets := s.pallets ++ [x] }.modTruck b fun y => { y with pallets := y.pallets ++ [id] })).unsettled) ∧
    ∀ (s : State) (p : PortId) (l : LaneId) (id budget exposure : Nat) (limit : Int),
      s.asks p .dock 0x41 (w1 l.val ++ w4 id ++ i2 limit ++ w4 budget ++ w4 exposure) → 1 ≤ id → id ≤ 99999999 → -400 ≤ limit →
      limit ≤ 100 → 1 ≤ budget → budget ≤ 4294967295 → exposure ≤ 4294967295 → (s.lane l).enabled →
      (s.lane l).pallets.length + (s.lane l).reservations < (s.lane l).depth → s.pallets.length < 512 → (∀ x ∈ s.pallets, x.id ≠ id) →
      let warned := decide (3 * budget ≤ 4 * exposure)
      let held := decide (budget ≤ exposure)
      let x : Pallet := { id := id, limit := limit, budget := budget, exposure := exposure, place := .lane l, warned := warned,
                          held := held, released := false, admittedAt := s.clock }
      ∃ t, exec (.admitPallet p) s = .next t ∧ (warned → Raises s t .palletWarn id) ∧
        (held → s.alarms.length < 63 → Raises s t .palletHeld id) ∧
        t.unsettled =
          (respond p { status := .ok, payload := w1 (s.lane l).pallets.length ++ yn warned ++ yn held }
            ({ s with pallets := s.pallets ++ [x] }.modLane l fun y => { y with pallets := y.pallets ++ [id] })).unsettled

/-- R91 to R94: RELEASE_HOLD makes a HELD pallet RELEASED and no longer HELD, PALLET_HELD cleared. REMOVE of a pallet that stands in a lane or
truck list and that no unfinished SINGLE order names, and DEPART of a closed bay in NONE that no unfinished order uses, retire the pallet, or
every pallet of the truck: off its list, its record free, its alarms cleared, PALLETS set for DOCK and MONITOR. What settling leaves alone
otherwise stands. -/
def Obligations.PalletsAreReleasedAndRetired : Prop :=
  (∀ (s : State) (p : PortId) (x : Pallet),
      s.asks p .dock 0x43 (w4 x.id) → s.alarmsOk → 1 ≤ x.id → x.id ≤ 99999999 → s.pallet x.id = some x → x.held →
      ∃ t, exec (.releaseHold p) s = .next t ∧ t.flagged [.dock] .pallets ∧
        t.pallet x.id = some { x with held := false, released := true } ∧
        (∀ e, t.alarm .palletHeld x.id = some e → e.state = .clearedUnacked) ∧
        t.unsettled =
          (respond p (.bare .ok) (s.modPallet x.id fun y => { y with held := false, released := true })).unsettled) ∧
  (∀ (s : State) (p : PortId) (ep : Endpoint) (x : Pallet),
      s.asks p .dock 0x42 (w4 x.id) → s.alarmsOk → 1 ≤ x.id → x.id ≤ 99999999 → s.pallet x.id = some x → x.place = ep.place →
      (∀ o ∈ s.orders, o.state.unfinished → o.mode = .single → o.named ≠ x.id) →
      ∃ t, exec (.remove p) s = .next t ∧ t.flagged [.dock] .pallets ∧
        (x.warned → ∀ e, t.alarm .palletWarn x.id = some e → e.state = .clearedUnacked) ∧
        (x.held → ∀ e, t.alarm .palletHeld x.id = some e → e.state = .clearedUnacked) ∧
        t.unsettled =
          (respond p (.bare .ok)
            ({ s with pallets := s.pallets.filter fun y => y.id ≠ x.id }.modList ep fun l => l.filter fun n => n ≠ x.id)).unsettled) ∧
    ∀ (s : State) (p : PortId) (b : BayId),
      s.asks p .dock 0x44 (w1 b.val) → s.palletsOk → (s.bay b).enabled → (s.bay b).grant = .none → (s.bay b).shutter = .closed →
      (∀ o ∈ s.orders, o.state.unfinished → o.source ≠ .bay b ∧ o.dest ≠ .bay b) →
      let gone := (s.truck b).pallets
      ∃ t, exec (.depart p) s = .next t ∧ (gone ≠ [] → t.flagged [.dock] .pallets) ∧
        (s.alarmsOk → ∀ x ∈ s.pallets, x.id ∈ gone →
          (x.warned → ∀ e, t.alarm .palletWarn x.id = some e → e.state = .clearedUnacked) ∧
            (x.held → ∀ e, t.alarm .palletHeld x.id = some e → e.state = .clearedUnacked)) ∧
        t.unsettled =
          (respond p { status := .ok, payload := w1 gone.length }
            ({ s with pallets := s.pallets.filter fun y => y.id ∉ gone }.modTruck b fun y => { y with pallets := [] })).unsettled

/-- R96, R97: SET_LANE on a disabled lane of an enabled room enables it, empty; on an enabled lane it writes room, depth and quarantine flag, a
new room only with the lane empty and unreserved, a depth only when the pallets and reservations fit it. DISABLE_LANE of an empty, unreserved lane
that no unfinished order uses returns it to reset but for its settings and room. -/
def Obligations.LaneIsSetAndDisabled : Prop :=
  (∀ (s : State) (p : PortId) (l : LaneId) (r : RoomId) (depth : Nat) (q : Bool),
      s.asks p .dock 0x45 (w1 l.val ++ w1 r.val ++ w1 depth ++ w1 q.toNat) → 1 ≤ depth → depth ≤ 12 →
      ((s.lane l).enabled = false → (s.room r).enabled →
        exec (.setLane p) s =
          .next (respond p (.bare .ok)
            (s.modLane l fun _ =>
              { enabled := true, room := r, depth := depth, quarantine := q, pallets := [], reservations := 0, sourceOf := none }))) ∧
        ((s.lane l).enabled →
          (s.lane l).room = r ∨ ((s.lane l).pallets = [] ∧ (s.lane l).reservations = 0 ∧ (s.room r).enabled) →
          (s.lane l).pallets.length + (s.lane l).reservations ≤ depth →
          ∃ t, exec (.setLane p) s = .next t ∧
            t.unsettled =
              (respond p (.bare .ok) (s.modLane l fun x => { x with room := r, depth := depth, quarantine := q })).unsettled)) ∧
    ∀ (s : State) (p : PortId) (l : LaneId),
      s.asks p .dock 0x46 (w1 l.val) → (s.lane l).enabled → (s.lane l).pallets = [] → (s.lane l).reservations = 0 →
      (∀ o ∈ s.orders, o.state.unfinished → o.source ≠ .lane l ∧ o.dest ≠ .lane l) →
      exec (.disableLane p) s =
        .next (respond p (.bare .ok)
          (s.modLane l fun x => { Lane.reset with room := x.room, depth := x.depth, quarantine := x.quarantine }))

/-- R87, R88, R92, R94, R98 to R100, R112: at most 512 pallet records are in use, no two with one id; a lane or truck list holds exactly the
pallets whose place it is, each once; a truck list at most 30, a disabled lane none; every step keeps this, whatever the command. Every step keeps
with it that a pallet is WARNED exactly from three quarters of its budget on, and HELD exactly at its budget or above it while not RELEASED. -/
def Obligations.PalletsStayInTheirLists : Prop :=
  ∀ s t : State, s.palletsOk → step s = .next t → t.palletsOk ∧ (s.marksOk → t.marksOk)

/-! ### Exposure (chapter 6) -/

/-- R105: SET_EXPOSURE_PERIOD writes the setting of the periods to come and answers with the period in force and its expiry, which stand; a value
outside 1 to 60 is refused with RANGE. -/
def Obligations.ExposurePeriodIsSetForTheNext : Prop :=
  ∀ (s : State) (p : PortId) (secs : Nat), s.asks p .dock 0x4C (w2 secs) → secs ≤ 65535 →
    exec (.setExposurePeriod p) s =
      .next (if 1 ≤ secs ∧ secs ≤ 60 then
              respond p { status := .ok, payload := w2 s.expTimer.inForce ++ w4 (s.expTimer.start + s.expTimer.inForce) }
                { s with expTimer := { s.expTimer with next := secs } }
             else respond p (.bare .range) s)

/-- R104, R106, R108 to R113: at a due exposure period expiry every pallet in a lane, in the truck of an ACTIVE, OVERDUE or FORCED bay, or
carried, takes the excess of its location's temperature over its limit, times the seconds of the period, saturating; it becomes WARNED at three
quarters of its budget and, unless RELEASED, HELD at its budget. PALLET_WARN and PALLET_HELD are raised, with the exposure as value, for each
pallet that becomes so, and left for every other. The next period begins at the expiry's own time, with the setting. -/
def Obligations.ExposureExpiryAccruesAndMarks : Prop :=
  ∀ s : State, s.hold = none → s.expTimer.start + s.expTimer.inForce ≤ s.clock →
    let air (r : RoomId) : Int :=
      if (s.room r).probeLost then min ((s.room r).temp + (s.room r).cfg.surcharge) 500 else (s.room r).temp
    let place (x : Pallet) : Option Int :=
      match x.place with
      | .lane l => some (air (s.lane l).room)
      | .truck b =>
        if (s.bay b).grant = .active ∨ (s.bay b).grant = .overdue ∨ (s.bay b).grant = .forced then some (air (s.bay b).room) else none
      | .carried n => (s.order n).map fun o => max (air (s.roomOf o.source)) (air (s.roomOf o.dest))
    let after (x : Pallet) : Pallet :=
      match place x with
      | none => x
      | some d =>
        let e := if d ≤ x.limit then x.exposure else min 4294967295 (x.exposure + (d - x.limit).toNat * s.expTimer.inForce)
        { x with exposure := e, warned := x.warned || decide (3 * x.budget ≤ 4 * e)
                 held := x.held || (!x.released && decide (x.budget ≤ e)) }
    let now := s.expTimer.start + s.expTimer.inForce
    let bare : State :=
      { s with pallets := s.pallets.map after
               expTimer := { inForce := s.expTimer.next, start := now, next := s.expTimer.next, last := some now } }
    ∃ t, exec .exposurePeriodExpiry s = .next t ∧ t.unsettled = bare.unsettled ∧
      ((∀ x ∈ s.pallets, (after x).warned = x.warned ∧ (after x).held = x.held) → t = bare) ∧
      ((∃ x ∈ s.pallets, (after x).warned ≠ x.warned ∨ (after x).held ≠ x.held) → t.flagged [.dock] .pallets) ∧
      (s.palletsOk →
        s.alarms.length + 2 * (s.pallets.filter fun x => (after x).warned != x.warned || (after x).held != x.held).length ≤ 48 →
        ∀ x ∈ s.pallets,
          let raised (k : AlarmKind) : Prop :=
            Raises s t k x.id ∧ ∀ a, t.alarm k x.id = some a → a.value = some ((after x).exposure : Int)
          let left (k : AlarmKind) : Prop := t.alarm k x.id = s.alarm k x.id
          (if x.warned = false ∧ (after x).warned = true then raised .palletWarn else left .palletWarn) ∧
            if x.held = false ∧ (after x).held = true then raised .palletHeld else left .palletHeld)

/-! ### Move orders (chapter 7) -/

/-- R119, R120: an evaluation of an order that does not carry works its lead warned flag out again and gives it the outcome of the first check
that applies: a named pallet gone, an empty source, a HELD lead not bound for quarantine, an endpoint bay that is not open, a full destination
lane, a destination room in ALARM or CRITICAL; else it is ready. -/
def Obligations.EvaluationTakesTheFirstCheckThatApplies : Prop :=
  ∀ (s : State) (o : Order) (readyAs : OrderState), o.state ≠ .carrying →
    let list := s.listAt o.source
    let lead : Option Nat := if o.mode = .single then some o.named else if o.pickEnd = .front then list.head? else list.getLast?
    let pallet : Option Pallet := lead.bind s.pallet
    let quarantine : Bool := match o.dest with
      | .lane l => (s.lane l).quarantine
      | .bay _ => false
    let shut (ep : Endpoint) : Bool := match ep with
      | .bay b => decide ((s.bay b).grant ≠ .active ∧ (s.bay b).grant ≠ .overdue)
      | .lane _ => false
    let full : Bool := match o.dest with
      | .lane l => decide ((s.lane l).depth ≤ (s.lane l).pallets.length + (s.lane l).reservations)
      | .bay _ => false
    let warm : Bool := match o.dest with
      | .lane l => decide ((s.room (s.lane l).room).band = .alarm ∨ (s.room (s.lane l).room).band = .critical)
      | .bay _ => false
    let e := { o with leadWarned := pallet.any (fun (x : Pallet) => x.warned), reason := none, cause := none }
    s.evaluated readyAs o =
      if o.mode = .single ∧ o.named ∉ list then { e with state := .exception, cause := some .palletGone }
      else if o.mode ≠ .single ∧ list = [] then { e with state := .exception, cause := some .short }
      else if pallet.any (fun (x : Pallet) => x.held && !x.released) ∧ quarantine = false then
        { e with state := .exception, cause := some .held }
      else if shut o.source ∨ shut o.dest then { e with state := .waiting, reason := some .bay }
      else if full then { e with state := .waiting, reason := some .destFull }
      else if warm then { e with state := .waiting, reason := some .destWarm }
      else { e with state := readyAs }

/-- R30, R31, R57, R116 to R118, R122, R123: an accepted ORDER_CREATE takes into use the order asked for, under the next number that no record in
use holds, in a free record, or in that of the ended order that ended first; it becomes the source-of order of its list, is evaluated, and the
response gives number and state. ORDERS is set for DOCK and MONITOR, and for FLEET where the order is READY. Where it waits with reason BAY, a
request of origin ORDER has been filed for it at each of its bays that is not open.
(The model's choices: a record given up counts for the number, log entry 19; the fields a mode does not use hold FRONT and 0, log entry 14; the
response carries waiting reason and exception cause as two optional fields, log entry 15.) -/
def Obligations.OrderIsCreatedAndEvaluated : Prop :=
  ∀ (s : State) (p : PortId) (m : Mode) (src dst : Endpoint) (pl pe : ListEnd) (pr named ct : Nat) (kept : List Order),
    s.asks p .dock 0x50
        (w1 m.code ++ src.bytes ++ dst.bytes ++ w1 pl.code ++ w1 pr ++ w4 named ++ w1 pe.code ++ w1 ct) →
    s.ordersOk → src ≠ dst → pr ≤ 3 → s.endpointEnabled src → s.endpointEnabled dst → s.sourceOf src = none →
    (m = .single → 1 ≤ named ∧ named ≤ 99999999 ∧ named ∈ s.listAt src) → (m = .run → 1 ≤ ct ∧ ct ≤ 30) →
    (m ≠ .single → s.listAt src ≠ []) →
    (s.orders.length < 32 ∧ kept = s.orders ∨
      s.orders.length = 32 ∧ ∃ v ∈ s.orders, v.state.unfinished = false ∧
        (∀ w ∈ s.orders, w.state.unfinished = false →
          v.endedAt.getD 0 < w.endedAt.getD 0 ∨ (v.endedAt = w.endedAt ∧ v.num ≤ w.num)) ∧
        kept = s.orders.filter fun w => w.num ≠ v.num) →
    let after (n : Nat) : Nat := if n < 65535 then n + 1 else 1
    ∃ (t : State) (n k : Nat),
      let o : Order :=
        s.evaluated .ready
          { num := n, mode := m, source := src, pickEnd := if m = .single then .front else pe, named := if m = .single then named else 0,
            dest := dst, placement := pl,
            requested := if m = .single then 1 else if m = .run then ct else (s.listAt src).length, done := 0, priority := pr,
            state := .waiting, reason := none, cause := none, carried := none, leadWarned := false, cancelPending := false,
            createdAt := s.clock, endedAt := none }
      exec (.orderCreate p) s = .next t ∧ n = after^[k + 1] s.lastOrder ∧ (∀ w ∈ s.orders, w.num ≠ n) ∧
        (∀ j < k, ∃ w ∈ s.orders, w.num = after^[j + 1] s.lastOrder) ∧ t.order n = some o ∧
        t.flagged [.dock] .orders ∧ (o.state = .ready → t.flagged [.dock, .fleet] .orders) ∧
        (o.state = .waiting → o.reason = some .bay → ∀ b, src = .bay b ∨ dst = .bay b → FiledFor s t b n pr) ∧
        t.unsettled =
          (respond p { status := .ok, payload := w2 n ++ o.stateBytes }
            ({ s with orders := kept ++ [o], lastOrder := n }.setSourceOf src (some n))).unsettled

/-- R122, R132, R134: ORDER_CANCEL ends an order that carries nothing, CANCELLED now, out of every request and grant, and no longer the source-of
order of its list; it marks a CARRYING order cancel pending and no more. ORDER_CLEAR frees the record of an ended order, and nothing else changes.
(The model's choice: a cancelled order keeps its lead warned flag, log entry 29.) -/
def Obligations.OrderIsCancelledAndCleared : Prop :=
  (∀ (s : State) (p : PortId) (n : Nat) (o : Order),
      s.asks p .dock 0x51 (w2 n) → s.ordersOk → s.order n = some o →
      ((o.state = .waiting ∨ o.state = .ready ∨ o.state = .dispatched ∨ o.state = .exception) →
          let o' := { o with state := .cancelled, reason := none, cause := none, carried := none, cancelPending := false,
                             endedAt := some s.clock }
          ∃ t, exec (.orderCancel p) s = .next t ∧ t.order n = some o' ∧ t.flagged [.dock] .orders ∧
            (∀ b, n ∉ (t.bay b).granted ∧ ∀ q, (t.bay b).request = some q → n ∉ q.linked) ∧
            t.unsettled =
              (respond p { status := .ok, payload := [6] }
                ({ s with orders := s.orders.map fun (y : Order) => if y.num = n then o' else y }.setSourceOf o.source none)).unsettled) ∧
        (o.state = .carrying →
          exec (.orderCancel p) s =
            .next (respond p { status := .ok, payload := [3] }
              { s with orders := s.orders.map fun (y : Order) => if y.num = n then { y with cancelPending := true } else y }))) ∧
    ∀ (s : State) (p : PortId) (n : Nat) (o : Order),
      s.asks p .dock 0x53 (w2 n) → s.ordersOk → s.order n = some o → o.state = .done ∨ o.state = .cancelled →
      exec (.orderClear p) s = .next (respond p (.bare .ok) { s with orders := s.orders.filter fun (y : Order) => y.num ≠ n })

/-- R30, R31, R57, R120, R122, R123, R131, R133: ORDER_RESUME of an order in EXCEPTION, its cause taken off, and ABANDON of a DISPATCHED one
evaluate it, READY where it is ready; ORDER_RESUME answers with its state, and where the order waits with reason BAY a request of origin ORDER
has been filed for it at each of its bays that is not open. ORDERS is set for DOCK and MONITOR, but where a resumed order returns to EXCEPTION
with the cause it had, and for FLEET where the order is READY or was DISPATCHED. Nothing else changes but what settling may.
(An order that returns with its cause: log entry 36.) -/
def Obligations.ResumeAndAbandonEvaluate : Prop :=
  (∀ (s : State) (p : PortId) (n : Nat) (o : Order),
      s.asks p .dock 0x52 (w2 n) → s.ordersOk → s.order n = some o → o.state = .exception →
      let o' := s.evaluated .ready { o with cause := none }
      ∃ t, exec (.orderResume p) s = .next t ∧ t.order n = some o' ∧
        (o'.state ≠ .exception ∨ o'.cause ≠ o.cause → t.flagged [.dock] .orders) ∧
        (o'.state = .ready → t.flagged [.dock, .fleet] .orders) ∧
        (o'.state = .waiting → o'.reason = some .bay → ∀ b, o.source = .bay b ∨ o.dest = .bay b → FiledFor s t b n o.priority) ∧
        t.unsettled = (respond p { status := .ok, payload := w1 o'.state.code } s).unsettled) ∧
    ∀ (s : State) (p : PortId) (n : Nat) (o : Order),
      s.asks p .fleet 0x5B (w2 n) → s.ordersOk → s.order n = some o → o.state = .dispatched →
      ∃ t, exec (.abandon p) s = .next t ∧ t.order n = some (s.evaluated .ready o) ∧ t.flagged [.dock, .fleet] .orders ∧
        t.unsettled = (respond p (.bare .ok) s).unsettled

/-- R122, R125: FETCH_ORDER gives the READY order of highest priority, the earliest created of those, the lowest number of those, which becomes
DISPATCHED, and sets ORDERS for DOCK and MONITOR; with none READY it answers NONE. Nothing else changes. -/
def Obligations.FetchGivesTheFirstReadyOrder : Prop :=
  ∀ (s : State) (p : PortId), s.asks p .fleet 0x58 [] → s.ordersOk →
    ((∀ o ∈ s.orders, o.state ≠ .ready) → exec (.fetchOrder p) s = .next (respond p (.bare .none) s)) ∧
      ∀ o ∈ s.orders, o.state = .ready →
        (∀ w ∈ s.orders, w.state = .ready → w ≠ o →
          w.priority < o.priority ∨
            (w.priority = o.priority ∧ (o.createdAt < w.createdAt ∨ (o.createdAt = w.createdAt ∧ o.num < w.num)))) →
        exec (.fetchOrder p) s =
          .next (respond p
            { status := .ok
              payload :=
                w2 o.num ++ w1 o.mode.code ++ o.source.bytes ++ w1 o.pickEnd.code ++ o.dest.bytes ++ w1 o.placement.code ++
                  w1 o.requested ++ w1 o.done ++ w1 o.priority ++ w4 ((s.leadOf o).getD 0) }
            (setFlag [.dock] .orders
              { s with orders := s.orders.map fun (y : Order) => if y.num = o.num then { y with state := .dispatched } else y }))

/-- R98, R99, R126: PICK of a DISPATCHED order's lead pallet, not HELD or bound for quarantine, lifts it, takes the reservation of a lane
destination, and makes the order CARRYING; the response gives destination and placement. Another pallet is refused with WRONG_PALLET and MISPICK
raised; a HELD one with PALLET_HELD, the order going to EXCEPTION. -/
def Obligations.PickCarriesTheLeadPallet : Prop :=
  ∀ (s : State) (p : PortId) (n id : Nat) (o : Order),
    s.asks p .fleet 0x59 (w2 n ++ w4 id) → s.ordersOk → s.order n = some o → o.state = .dispatched → 1 ≤ id → id ≤ 99999999 →
    let list := s.listAt o.source
    let lead : Option Nat := if o.mode = .single then some o.named else if o.pickEnd = .front then list.head? else list.getLast?
    let quarantine := ∃ l, o.dest = .lane l ∧ (s.lane l).quarantine
    (lead ≠ some id → exec (.pick p) s = .next (respond p (.bare .wrongPallet) (raiseAlarm .mispick n none s))) ∧
      (∀ x, lead = some id → s.pallet id = some x →
        (x.held → x.released = false → ¬ quarantine →
          ∃ (t : State) (o' : Order), exec (.pick p) s = .next t ∧ t.order n = some o' ∧ o'.state = .exception ∧
            o'.cause = some .held ∧ t.unsettled = (respond p (.bare .palletHeld) s).unsettled) ∧
        ((x.held → x.released ∨ quarantine) → x.place = o.source.place → id ∈ list →
          (∀ l, o.dest = .lane l →
            (s.lane l).enabled ∧ (s.lane l).pallets.length + (s.lane l).reservations < (s.lane l).depth) →
          (∀ b, o.dest = .bay b → (s.bay b).grant = .active ∨ (s.bay b).grant = .overdue) →
          let o' := { o with state := .carrying, carried := some id, reason := none, cause := none, leadWarned := x.warned }
          let s1 := ({ s with orders := s.orders.map fun (y : Order) => if y.num = n then o' else y }.modList o.source fun l =>
            l.filter fun m => m ≠ id).modPallet id fun y => { y with place := .carried n }
          let s2 := match o.dest with
            | .lane l => s1.modLane l fun y => { y with reservations := y.reservations + 1 }
            | .bay _ => s1
          ∃ t, exec (.pick p) s = .next t ∧ t.order n = some o' ∧ t.flagged [.dock] .orders ∧
            t.unsettled = (respond p { status := .ok, payload := o.dest.bytes ++ w1 o.placement.code } s2).unsettled))

/-- R98, R100, R119, R122, R128, R130: DROP of the carried pallet at the order's destination, a bay that is open with a place left, or a lane,
sets it down: in a lane at the order's placement, its reservation used; in a truck list at the back. The order counts it, and is CANCELLED where
a cancel pends, else DONE at its number, else evaluated, DISPATCHED where it is ready. An order that ends leaves its source list, without waiting
reason and with no cause but one it had, its lead warned flag worked out again. ORDERS is set for DOCK and MONITOR, and for FLEET where the
forklift no longer has the order. At a bay that is not open the request is refused with BAY_NOT_OPEN.
(The response of a cancelled drop: log entry 15.) -/
def Obligations.DropAtTheDestinationCounts : Prop :=
  ∀ (s : State) (p : PortId) (n id : Nat) (o : Order) (x : Pallet),
    s.asks p .fleet 0x5A (w2 n ++ w4 id ++ o.dest.bytes) → s.ordersOk → s.order n = some o → o.state = .carrying →
    o.carried = some id → 1 ≤ id → id ≤ 99999999 → s.pallet id = some x → x.place = .carried n →
    ((∀ b, o.dest = .bay b → (s.bay b).enabled ∧ ((s.bay b).grant = .active ∨ (s.bay b).grant = .overdue) ∧
          (s.truck b).pallets.length < 30) →
      (∀ l, o.dest = .lane l → (s.lane l).enabled) →
      ∃ (t : State) (o' : Order),
        let ended := o'.state = .done ∨ o'.state = .cancelled
        let s1 := { s with orders := s.orders.map fun (y : Order) => if y.num = n then o' else y }.modPallet id fun y =>
          { y with place := o.dest.place }
        let s2 := match o.dest with
          | .lane l => s1.modLane l fun y =>
              { y with pallets := if o.placement = .front then id :: y.pallets else y.pallets ++ [id], reservations := y.reservations - 1 }
          | .bay b => s1.modTruck b fun y => { y with pallets := y.pallets ++ [id] }
        exec (.drop p) s = .next t ∧ t.order n = some o' ∧
          (o.cancelPending → o'.state = .cancelled) ∧
          (o.cancelPending = false → o.requested ≤ o.done + 1 → o'.state = .done) ∧
          (o.cancelPending = false → o.done + 1 < o.requested →
            (o'.state = .dispatched ∨ o'.state = .waiting ∨ o'.state = .exception) ∧
              o' = s2.evaluated .dispatched { o with done := o.done + 1, carried := none, state := .dispatched }) ∧
          (ended → o'.reason = none ∧ o'.cause = (if o'.state = .done then o.cause else none) ∧
            o'.leadWarned = s2.leadIsWarned { o with carried := none, state := o'.state }) ∧
          t.flagged [.dock] .orders ∧ (o'.state ≠ .dispatched → t.flagged [.dock, .fleet] .orders) ∧
          o' = { o with done := o.done + 1, carried := none, cancelPending := false, state := o'.state, reason := o'.reason,
                        cause := o'.cause, leadWarned := o'.leadWarned, endedAt := if ended then some s.clock else none } ∧
          t.unsettled =
            (respond p
              { status := .ok, payload := w1 o'.state.code ++ if o.cancelPending then [] else w1 (o.done + 1) }
              (if ended then s2.setSourceOf o.source none else s2)).unsettled) ∧
      ∀ b, o.dest = .bay b → (s.bay b).grant ≠ .active → (s.bay b).grant ≠ .overdue →
        ∃ t, exec (.drop p) s = .next t ∧ t.order n = some { o with reason := some .bay } ∧
          t.unsettled = (respond p (.bare .bayNotOpen) s).unsettled

/-- R98, R100, R129, R130: DROP in a lane with room that is not the order's destination sets the pallet down at its back, gives up the
reservation, and puts the order into EXCEPTION with cause MISDROP and the alarm raised, or, where a cancel pends, ends it CANCELLED. At a bay
that is not the destination it is refused with WRONG_LOCATION, MISDROP raised, and the order still carries. -/
def Obligations.DropElsewhereIsAMisdrop : Prop :=
  (∀ (s : State) (p : PortId) (n id : Nat) (l : LaneId) (o : Order) (x : Pallet),
      s.asks p .fleet 0x5A (w2 n ++ w4 id ++ w1 0 ++ w1 l.val) → s.ordersOk → s.order n = some o → o.state = .carrying →
      o.carried = some id → 1 ≤ id → id ≤ 99999999 → s.pallet id = some x → x.place = .carried n → o.dest ≠ .lane l →
      (s.lane l).enabled → (s.lane l).pallets.length + (s.lane l).reservations < (s.lane l).depth →
      ∃ (t : State) (o' : Order),
        let s1 := ({ s with orders := s.orders.map fun (y : Order) => if y.num = n then o' else y }.modPallet id fun y =>
          { y with place := .lane l }).modLane l fun y => { y with pallets := y.pallets ++ [id] }
        let s2 := match o.dest with
          | .lane d => s1.modLane d fun y => { y with reservations := y.reservations - 1 }
          | .bay _ => s1
        exec (.drop p) s = .next t ∧ t.order n = some o' ∧
          (if o.cancelPending then
            o' = { o with state := .cancelled, reason := none, cause := none, carried := none, cancelPending := false,
                          leadWarned := o'.leadWarned, endedAt := some s.clock } ∧
              t.unsettled = (respond p { status := .ok, payload := [6] } (s2.setSourceOf o.source none)).unsettled
           else
            o' = { o with state := .exception, cause := some .misdrop, reason := none, carried := none, leadWarned := o'.leadWarned } ∧
              Raises s t .misdrop n ∧ t.unsettled = (respond p { status := .ok, payload := [4] } s2).unsettled)) ∧
    ∀ (s : State) (p : PortId) (n id : Nat) (b : BayId) (o : Order),
      s.asks p .fleet 0x5A (w2 n ++ w4 id ++ w1 1 ++ w1 b.val) → s.ordersOk → s.order n = some o → o.state = .carrying →
      o.carried = some id → 1 ≤ id → id ≤ 99999999 → o.dest ≠ .bay b →
      exec (.drop p) s = .next (respond p (.bare .wrongLocation) (raiseAlarm .misdrop n none s))

/-- R95, R98, R116 to R118, R120, R122, R124, R126 to R130: at most 32 orders are in use, no two with one number, numbers 1 to 65,535; an order
holds a pallet exactly while CARRYING and an end time exactly once ended; the lanes and bays of an unfinished order are enabled. Every step keeps
this, and with it that a lane's reservations are those of the CARRYING orders bound for it and fit its depth together with its pallets, and that
an order in READY or DISPATCHED, or in WAITING with another reason than BAY, has its bay endpoints in ACTIVE or OVERDUE. -/
def Obligations.OrdersAndReservationsStayInOrder : Prop :=
  ∀ s t : State, s.ordersOk → step s = .next t → t.ordersOk ∧ (s.lanesOk → t.lanesOk) ∧ (s.readyOk → t.readyOk)

/-! ### The alarm list and the summary flags (chapter 8) -/

/-- R138, R141: a raise merges into the entry of its kind and subject, or puts a new one at the list's end. A full list gives up its oldest
CLEARED_UNACKED entry, or else its oldest ACTIVE_ACKED one of a lower severity; with neither, the overflow count rises and every port's ALARMS
flag is set. Only the list, the overflow count and the port flags change. -/
def Obligations.RaiseMergesOrEntersOrOverflows : Prop :=
  ∀ (s : State) (k : AlarmKind) (n : Nat) (v : Option Int) (h : Option Role), s.alarmsOk →
    let t := raiseHeld k n v h s
    let new : AlarmEntry :=
      { kind := k, subject := n, state := .activeUnacked, first := s.clock, last := s.clock, repeats := 0, value := v, holder := h }
    let weak (e : AlarmEntry) : Prop := e.state = .activeAcked ∧ e.kind.severity < k.severity
    let known := ∃ e ∈ s.alarms, e.kind = k ∧ e.subject = n
    t = { s with alarms := t.alarms, overflow := t.overflow, ports := t.ports } ∧ t.unsettled = s.unsettled ∧
      (known →
        t.overflow = s.overflow ∧
          t.alarms = s.alarms.map fun e =>
            if e.kind = k ∧ e.subject = n then
              { e with repeats := min 255 (e.repeats + 1), last := s.clock, value := v, state := .activeUnacked, holder := h }
            else e) ∧
      (¬ known → s.alarms.length < 64 → t.overflow = s.overflow ∧ t.alarms = s.alarms ++ [new]) ∧
      (¬ known → s.alarms.length = 64 →
        (∀ pre e post, s.alarms = pre ++ e :: post → e.state = .clearedUnacked → (∀ d ∈ pre, d.state ≠ .clearedUnacked) →
          t.overflow = s.overflow ∧ t.alarms = pre ++ post ++ [new]) ∧
        (∀ pre e post, s.alarms = pre ++ e :: post → weak e → (∀ d ∈ pre, ¬ weak d) → (∀ d ∈ s.alarms, d.state ≠ .clearedUnacked) →
          t.overflow = s.overflow ∧ t.alarms = pre ++ post ++ [new]) ∧
        ((∀ d ∈ s.alarms, d.state ≠ .clearedUnacked ∧ ¬ weak d) →
          t.alarms = s.alarms ∧ t.overflow = min 65535 (s.overflow + 1) ∧
            ∀ q, (t.port q).flags &&& Flag.alarms.bit = Flag.alarms.bit))

/-- R139, R140, R142: a clear makes an ACTIVE_UNACKED entry CLEARED_UNACKED and removes an ACTIVE_ACKED one, and otherwise does nothing. ACK_ALARM
by a role the alarm is routed to makes a condition alarm ACTIVE_ACKED, and removes an event alarm or a cleared one; it sets ALARMS on the other
ports concerned, not on its own. Only the list and the port flags change.
(The response to ACK_ALARM: log entry 15.) -/
def Obligations.ClearAndAcknowledgementEndAnAlarm : Prop :=
  (∀ (s : State) (k : AlarmKind) (n : Nat), s.alarmsOk →
      let t := clearAlarm k n s
      let mine (e : AlarmEntry) : Bool := decide (e.kind = k ∧ e.subject = n)
      ((∀ e ∈ s.alarms, mine e → e.state = .clearedUnacked) → t = s) ∧
        ∀ e ∈ s.alarms, mine e → e.state ≠ .clearedUnacked →
          t = { s with alarms := t.alarms, ports := t.ports } ∧ t.unsettled = s.unsettled ∧ t.flagged e.roles .alarms ∧
            t.alarms =
              if e.state = .activeAcked then s.alarms.filter fun d => !mine d
              else s.alarms.map fun d => if mine d then { d with state := .clearedUnacked } else d) ∧
    ∀ (s : State) (p : PortId) (role : Role) (k : AlarmKind) (n : Nat) (e : AlarmEntry),
      s.asks p role 0x60 (w1 k.code ++ w4 n) → role ≠ .monitor → s.alarmsOk → k.subjects.1 ≤ n → n ≤ k.subjects.2 →
      s.alarm k n = some e → (if k = .nodeLost then e.holder = some role else role ∈ k.routes) → e.state ≠ .activeAcked →
      let mine (e : AlarmEntry) : Bool := decide (e.kind = k ∧ e.subject = n)
      let gone := e.state = .clearedUnacked ∨ k = .mispick ∨ k = .misdrop
      let r : Response := { status := .ok, payload := if gone then [0, 0] else [1, 1] }
      ∃ t, exec (.ackAlarm p) s = .next t ∧
        t = { respond p r s with alarms := t.alarms, ports := t.ports } ∧ t.unsettled = (respond p r s).unsettled ∧
        (t.port p).flags = (s.port p).flags ∧
        (∀ q, q ≠ p → (s.port q).role = .monitor ∨ (s.port q).role ∈ e.roles →
          (t.port q).flags &&& Flag.alarms.bit = Flag.alarms.bit) ∧
        t.alarms =
          if gone then s.alarms.filter fun d => !mine d
          else s.alarms.map fun d => if mine d then { d with state := .activeAcked } else d

/-- R137: the alarm list holds at most 64 entries and at most one for each kind and subject; every step keeps this, whatever the command. -/
def Obligations.AlarmsStayInOrder : Prop := ∀ s t : State, s.alarmsOk → step s = .next t → t.alarmsOk

/-- R143, R145, R146: READ_SUMMARY answers, to every role, with the port's flags, the overflow count, the length of the port's view of the alarm
list and of its ACTIVE_UNACKED part, and the mask, and clears the flags; SET_ATTENTION_MASK takes any mask and answers with it and the flags.
ATN# is asserted exactly while a flag set on the port is in its mask. Nothing else changes. -/
def Obligations.SummaryIsReadAndTheMaskIsSet : Prop :=
  (∀ (s : State) (p : PortId), s.asks p (s.port p).role 0x62 [] →
      let c := s.port p
      let view := s.alarms.filter fun e => decide (c.role = .monitor ∨ c.role ∈ e.roles)
      exec (.readSummary p) s =
        .next (respond p
          { status := .ok
            payload :=
              [c.flags] ++ w2 s.overflow ++ w1 view.length ++ w1 (view.filter fun e => decide (e.state = .activeUnacked)).length ++
                [c.mask] }
          (s.modPort p fun c => { c with flags := 0 }))) ∧
    (∀ (s : State) (p : PortId) (m : Byte), s.asks p (s.port p).role 0x63 [m] →
      exec (.setAttentionMask p) s =
        .next (respond p { status := .ok, payload := [m, (s.port p).flags] } (s.modPort p fun c => { c with mask := m }))) ∧
    ∀ (s : State) (p : PortId), s.hold = none →
      (s.atnPin p ↔ ∃ k : Flag, (s.port p).flags &&& k.bit = k.bit ∧ (s.port p).mask &&& k.bit = k.bit)

/-! ### The sensor line (chapter 9) -/

/-- R154: the check bytes formed over some bytes, high byte first, bring the register to zero, and so does the whole of every POLL. -/
def Obligations.CheckBytesBringTheRegisterToZero : Prop :=
  (∀ l : List Byte, crcOf (l ++ w2 (crcOf l).toNat) = 0) ∧ ∀ (s : State) (e : EntryId), crcOf (s.pollFrame e) = 0

/-- R148, R149: SET_PROBE_NODE and SET_BAY_NODE whose checks pass write the entry: a new kind or address, with counts and payload renewed;
ENABLED into UNKNOWN; DISABLED, with the notice that makes the probes naming it STALE or the bay naming it LOST and locked out; FREE to its reset
value. NODE_LOST is cleared where the address or kind is new and where an enabled entry is disabled or freed. LINE is set by a change of state,
and an exchange with the entry ends if it is disabled, freed or re-addressed. Everything else stands: after DISABLED it is as the loss of the
entry's node leaves it, and no more.
(The bytes of the three actions: log entry 11.) -/
def Obligations.NodeEntriesAreWritten : Prop :=
  ∀ (s : State) (p : PortId) (k : NodeKind) (e : EntryId) (a : Nat),
    let cmd := match k with
      | .probe => Instr.setProbeNode p
      | .bay => Instr.setBayNode p
    let code := if k = .probe then 0x70 else 0x71
    let role : Role := if k = .probe then .plant else .dock
    let x := s.node e
    let unnamed := match k with
      | .probe => ∀ n, ¬ ((s.probe n).enabled ∧ (s.probe n).node = some e)
      | .bay => ∀ b, ¬ ((s.bay b).enabled ∧ (s.bay b).node = some e)
    let moves (y : NodeEntry) (t : State) : Prop :=
      if (∃ z, s.line.exchange = some z ∧ z.entry = e) ∧ (y.enabled = false ∨ y.address ≠ x.address) then
        ∀ z, t.line.exchange = some z → e < z.entry
      else t.line = s.line
    let cleared (t : State) : Prop := s.alarmsOk → ∀ a, t.alarm .nodeLost e.val = some a → a.state = .clearedUnacked
    x.kind = none ∨ x.kind = some k → a ≤ 255 →
    (∀ act : Nat, act ≤ 1 → s.asks p role code (w1 e.val ++ w1 a ++ w1 act) → 1 ≤ a → a ≤ 63 →
      (∀ d, d ≠ e → (s.node d).kind ≠ none → (s.node d).address ≠ some a) → (x.address ≠ some a → unnamed) →
      let fresh := x.kind ≠ some k ∨ x.address ≠ some a
      let y : NodeEntry :=
        { kind := some k, address := some a, enabled := decide (act = 0)
          state :=
            if act = 0 then (if x.enabled ∧ ¬ fresh then x.state else .unknown) else if x.enabled then .disabled else x.state
          misses := if fresh ∨ (act = 0 ∧ x.enabled = false) then 0 else x.misses, bad := if fresh then 0 else x.bad
          payload := if fresh then none else x.payload }
      ∃ t, exec cmd s = .next t ∧ t.node e = y ∧ moves y t ∧ (y.state ≠ x.state → t.flagged [.plant, .dock] .line) ∧
        (act = 0 ∨ x.enabled = false →
          t.unsettled = (respond p (.bare .ok) { s.modNode e fun _ => y with line := t.line }).unsettled) ∧
        (fresh ∨ (act = 1 ∧ x.enabled) → cleared t) ∧
        (act = 1 → x.enabled →
          let mid := s.modNode e fun _ => y
          let w := match k with
            | .probe => loseProbeNode e mid
            | .bay => loseBayNode e mid
          t.unsettled = (respond p (.bare .ok) { w with line := t.line }).unsettled ∧
            (∀ b, (t.bay b).grant = (w.bay b).grant ∨ ((w.bay b).grant = .requested ∧ (t.bay b).grant = .granted)) ∧
            (k = .probe → ∀ n, (s.probe n).enabled → (s.probe n).node = some e → t.probe n = { s.probe n with cond := .stale }) ∧
            (k = .bay → ∀ b, (s.bay b).enabled → (s.bay b).node = some e →
              (∀ c, c ≠ b → (s.bay c).enabled → (s.bay c).node ≠ some e) →
              (t.bay b).held = true ∧ (t.bay b).cond = .lost ∧ (t.bay b).causes = { (s.bay b).causes with node := true }))) ∧
      (s.asks p role code (w1 e.val ++ w1 a ++ w1 2) → unnamed →
        ∃ t, exec cmd s = .next t ∧ t.node e = NodeEntry.reset ∧ moves NodeEntry.reset t ∧
          (x.enabled → x.state ≠ .disabled → t.flagged [.plant, .dock] .line) ∧ (x.enabled → cleared t) ∧
          t.unsettled = (respond p (.bare .ok) { s.modNode e fun _ => NodeEntry.reset with line := t.line }).unsettled)

/-- R46, R150 to R152, R154, R155, R158, R173: SET_LINE writes the four settings. A pass start and LINE_RESTART set the next pass start from now and
begin the POLL of the first enabled entry, LINE_RESTART ending an exchange and zeroing the counts first. A POLL is the entry's address, the kind
0x01, for a BAY entry the command byte of the bay that names it, RED and locked with none, and the check bytes. When it has been sent, TX has
driven each byte as a low start bit, the bits from the least significant on and a high stop bit, and the reply window opens for its length, with
the check register at all ones. Nothing else changes. A reply of its full length in an open window, or the window's expiry, completes and ends the
exchange, the pass going on behind the entry and every other node entry standing.
(The model's choices: the line's time at a pass start, log entry 4; TX's bits recorded when the whole POLL is sent, log entry 27; the command
byte's bits 7 to 3 are 0, log entry 38; an overrun pass leaves the next to LINE_PASS_START, log entry 42.) -/
def Obligations.LineSettingsPassesAndPolls : Prop :=
  let begun (s t : State) : Prop :=
    (∀ e, (s.node e).enabled → (∀ d, d < e → (s.node d).enabled = false) →
      t.line.exchange = some { entry := e, rate := s.line.rate, poll := s.pollFrame e, phase := .sending }) ∧
    ((∀ e, (s.node e).enabled = false) → t.line.exchange = none)
  (∀ (s : State) (p : PortId) (rate : LineRate) (window limit period : Nat),
      s.asks p .plant 0x72 (w1 rate.code ++ w1 window ++ w1 limit ++ w1 period) → 1 ≤ window → window ≤ 50 → 1 ≤ limit → limit ≤ 15 →
      1 ≤ period → period ≤ 100 →
      exec (.setLine p) s =
        .next (respond p (.bare .ok)
          { s with line := { s.line with rate := rate, window := window, missLimit := limit, period := period } })) ∧
    (∀ (s : State) (p : PortId), s.asks p .plant 0x73 [] →
      ∃ t, exec (.lineRestart p) s = .next t ∧ begun s t ∧
        t =
          respond p (.bare .ok)
            { s with nodes := s.nodes.map fun x => { x with misses := 0, bad := 0 }
                     line := { s.line with nextPass := s.line.ms + 100 * s.line.period, exchange := t.line.exchange, crc := t.line.crc } }) ∧
    (∀ s : State, s.hold = none → s.line.exchange = none →
      let now := max s.line.ms s.line.nextPass
      ∃ t, exec .linePassStart s = .next t ∧ begun s t ∧
        t =
          { s with line := { s.line with ms := now, nextPass := now + 100 * s.line.period, exchange := t.line.exchange
                                         crc := t.line.crc } }) ∧
    (∀ (s : State) (e : EntryId) (a : Nat) (k : NodeKind), (s.node e).address = some a → (s.node e).kind = some k →
      ∃ cmd : Byte,
        let body : List Byte := [BitVec.ofNat 8 a, 0x01] ++ if k = .bay then [cmd] else []
        (∀ b, (s.bay b).enabled → (s.bay b).node = some e → (∀ c, c ≠ b → (s.bay c).enabled → (s.bay c).node ≠ some e) →
          cmd = match (s.bay b).grant with
            | .none | .requested => 4
            | .granted | .active => 1
            | .overdue | .forced => 2) ∧
          ((∀ b, ¬ ((s.bay b).enabled ∧ (s.bay b).node = some e)) → cmd = 4) ∧ s.pollFrame e = body ++ w2 (crcOf body).toNat) ∧
    (∀ (s : State) (x : Exchange), s.hold = none → s.line.exchange = some x → x.phase = .sending →
      exec .pollSent s =
        .next { s with line := { s.line with exchange := some { x with phase := .window (s.line.ms + s.line.window) }, crc := 0xFFFF
                                             tx := x.poll.flatMap fun b => false :: [0, 1, 2, 3, 4, 5, 6, 7].map b.getLsbD ++ [true] } }) ∧
    ∀ (s : State) (rx : List Bool) (z : Exchange) (until_ : Nat) (k : NodeKind) (a : Nat),
      s.hold = none → s.line.exchange = some z → z.phase = .window until_ → (s.node z.entry).kind = some k →
      (s.node z.entry).address = some a →
      let ends (c : Instr) : Prop :=
        ∃ t, exec c s = .next t ∧ (∀ w, t.line.exchange = some w → z.entry < w.entry ∧ w.phase = .sending) ∧
          ∀ d, d ≠ z.entry → t.node d = s.node d
      ((if k = .bay then 8 else 13) ≤ (receive rx).length → ends (.statusFrameReceived rx)) ∧ ends (.replyWindowExpiry rx)

/-- R5, R9, R28, R72, R82, R153, R155 to R157: in an open reply window, a reply of the length its entry's kind gives ends the exchange, good by
its address, kind and check, or bad with a miss; the window's expiry with fewer bytes is a miss, and before it a shorter reply changes nothing. A
good reply makes the entry ONLINE, its NODE_LOST clearing, and is delivered: probes, rooms and coils, or the bay, take it as their own statements
say. A miss at the limit makes the entry LOST, NODE_LOST raised, and its probes or its bay take the loss. The pass goes on at the next enabled
entry.
(The line's time at the expiry: log entry 4. A line low at first: log entry 18. The line after an overrun pass: log entry 42.) -/
def Obligations.ReplyOrExpiryEndsTheExchange : Prop :=
  ∀ (s : State) (rx : List Bool) (expiry : Bool) (z : Exchange) (until_ : Nat) (k : NodeKind) (a : Nat),
    let e := z.entry
    let x := s.node e
    let cmd := if expiry then Instr.replyWindowExpiry rx else .statusFrameReceived rx
    let n := if k = .bay then 8 else 13
    let frame := (receive rx).take n
    let good := frame.getD 0 0 = BitVec.ofNat 8 (128 + a) ∧ frame.getD 1 0 = 2 ∧ crcOf frame = 0
    let payload := (frame.drop 2).take (n - 4)
    let missed (x : NodeEntry) : NodeEntry :=
      let m := min 15 (x.misses + 1)
      { x with misses := m, state := if (x.state = .unknown ∨ x.state = .online) ∧ s.line.missLimit ≤ m then .lost else x.state }
    s.hold = none → s.line.exchange = some z → z.phase = .window until_ → x.kind = some k → x.address = some a →
    ((receive rx).length < n → expiry = false → exec cmd s = .next s) ∧
      (n ≤ (receive rx).length ∨ expiry = true →
        ∃ t, exec cmd s = .next t ∧
          t.node e =
            (if n ≤ (receive rx).length then
              if good then
                { x with misses := 0, payload := some payload, state := if x.state = .unknown ∨ x.state = .lost then .online else x.state }
              else missed { x with bad := min 65535 (x.bad + 1) }
             else missed x) ∧
          (∀ d, d ≠ e → t.node d = s.node d) ∧
          ((t.node e).state ≠ x.state → t.flagged [.plant, .dock] .line) ∧
          ((t.node e).state = .lost → x.state ≠ .lost → Raises s t .nodeLost e.val) ∧
          (∀ w, t.line.exchange = some w →
            e < w.entry ∧ w.phase = .sending ∧ (s.node w.entry).enabled ∧ w.rate = s.line.rate ∧ w.poll = t.pollFrame w.entry ∧
              ∀ d, e < d → (s.node d).enabled → w.entry ≤ d) ∧
          (t.line.exchange = none → ∀ d, e < d → (s.node d).enabled = false) ∧
          (n ≤ (receive rx).length → good → k = .probe → ∀ m, t.probe m = (takeProbeStatus e payload s).probe m) ∧
          (n ≤ (receive rx).length → good → k = .bay → ∀ b, (s.bay b).enabled → (s.bay b).node = some e →
            (∀ c, c ≠ b → (s.bay c).enabled → (s.bay c).node ≠ some e) →
            (t.bay b).shutter = shutterOfCode (payload.getD 0 0) ∧ (t.bay b).pressure = (payload.getD 1 0).toNat ∧
              (t.bay b).button = some (payload.getD 3 0).toNat ∧ (t.bay b).held = false) ∧
          (let mid : State := { s with nodes := t.nodes }
           let taken (w : State) : Prop := t.unsettled = { w with line := t.line }.unsettled
           let delivered := n ≤ (receive rx).length ∧ good
           let lost := (t.node e).state = .lost ∧ x.state ≠ .lost
           (delivered → x.state = .lost → s.alarmsOk → ∀ y, t.alarm .nodeLost e.val = some y → y.state = .clearedUnacked) ∧
            (delivered → k = .probe →
              let w := takeProbeStatus e payload mid
              taken w ∧ (s.coilsOk → ∀ c, (s.coil c).state = .defrost ∨ (s.coil c).state = .overrun →
                (t.coil c).heatConfirmed = (w.coil c).heatConfirmed)) ∧
            (delivered → k = .bay → ∀ b, (s.bay b).enabled → (s.bay b).node = some e →
              (∀ c, c ≠ b → (s.bay c).enabled → (s.bay c).node ≠ some e) →
              let w := takeBayStatus b (payload.getD 0 0) (payload.getD 1 0) (payload.getD 2 0) (payload.getD 3 0) mid
              taken w ∧ ((t.bay b).grant = (w.bay b).grant ∨ ((w.bay b).grant = .requested ∧ (t.bay b).grant = .granted))) ∧
            (delivered → k = .bay → (∀ b, ¬ ((s.bay b).enabled ∧ (s.bay b).node = some e)) → taken mid) ∧
            (lost → k = .probe → taken (loseProbeNode e mid)) ∧
            (lost → k = .bay → taken (loseBayNode e mid) ∧
              ∀ b, ((t.bay b).grant = ((loseBayNode e mid).bay b).grant ∨
                (((loseBayNode e mid).bay b).grant = .requested ∧ (t.bay b).grant = .granted))) ∧
            (¬ delivered → ¬ lost → taken mid)) ∧
          t.unsettled =
            { s with nodes := t.nodes, probes := t.probes, rooms := t.rooms, bays := t.bays, coils := t.coils
                     line := { s.line with ms := if expiry then max s.line.ms until_ else s.line.ms, exchange := t.line.exchange
                                           crc := t.line.crc } }.unsettled)

/-! ### The ports, the resets and the clock (chapter 10), and the whole part -/

/-- A step takes the command at the front of the queue: it is `exec` of it with the queue's rest. -/
def Obligations.StepRunsTheFrontCommand : Prop :=
  ∀ (c : Instr) (s : State), step { s with pending := c :: s.pending } = exec c s

/-- R164, R166: every command is answered with a next state and leaves the queue as it is; only the dock clock's tick and a completed full reset
change the clock, the tick by one up to its maximum, and only a completed full reset changes a port's role or the reset-cause record.
(The model's choices: every command answers with a next state, log entry 26; at a tick the line's millisecond time stands at least at 1,000 times
the clock, log entry 4.) -/
def Obligations.EveryCommandAnswersAndKeepsClockAndRoles : Prop :=
  (∀ (c : Instr) (s : State), ∃ t, exec c s = .next t ∧ t.pending = s.pending ∧
      ((∀ straps, c ≠ .fullResetComplete straps) →
        (∀ q, (t.port q).role = (s.port q).role) ∧ t.resetRec = s.resetRec ∧ (c ≠ .dockClockTick → t.clock = s.clock))) ∧
    ∀ s : State, s.hold = none →
      let now := min 4294967295 (s.clock + 1)
      exec .dockClockTick s = .next { s with clock := now, line := { s.line with ms := max s.line.ms (1000 * now) } }

/-- R164, R167: a part held in reset takes nothing but reset events. A cause begins the hold, or joins it, POWER_ON prevailing over the first; the
completion leaves the part as after reset, the queue standing, with the cause, the count since power-on, and the roles the straps give, a role an
earlier port holds making a port MONITOR and demoted.
(What a held part takes, and causes that begin while it is held: log entry 6.) -/
def Obligations.FullResetHoldsAndCompletes : Prop :=
  (∀ (s : State) (c : Instr), s.hold ≠ none → (∀ x, c ≠ .fullResetBegin x) → (∀ x, c ≠ .fullResetComplete x) → exec c s = .next s) ∧
    (∀ (s : State) (cause : ResetCause),
      exec (.fullResetBegin cause) s =
        .next { s with hold := some (if s.hold = none ∨ cause = .powerOn then cause else s.hold.getD cause)
                       ports := s.ports.map fun c => { c with selection := none } }) ∧
    (∀ (s : State) (straps : Straps), s.hold = none → exec (.fullResetComplete straps) s = .next s) ∧
    ∀ (s : State) (straps : Straps) (cause : ResetCause), s.hold = some cause →
      let a := strapRole straps.a
      let b := strapRole straps.b
      let c := strapRole straps.c
      let demB := decide (b ≠ .monitor ∧ b = a)
      let demC := decide (c ≠ .monitor ∧ (c = a ∨ c = b))
      exec (.fullResetComplete straps) s =
        .next (State.afterReset
          { cause := cause, roleA := a, roleB := if demB then .monitor else b, roleC := if demC then .monitor else c,
            demotedA := false, demotedB := demB, demotedC := demC,
            count := if cause = .powerOn then 0 else min 255 (s.resetRec.count + 1) } s.pending)

/-- R20, R49, R66, R86, R103, R115, R135, R147, R160, R167: a completed reset leaves the clock at 0, every port with its RESET flag alone and its
mask full, no alarm, pallet or order, every record at its reset value, the periods at their defaults, the first pass at its end; and in that
state every invariant stated here holds. (The check register's value is the model's: log entry 28.) -/
def Obligations.ResetLeavesTheListedValues : Prop :=
  ∀ (rec : ResetRec) (pending : List Instr),
    let s := State.afterReset rec pending
    (s.clock = 0 ∧ s.hold = none ∧ s.resetRec = rec ∧ s.pending = pending ∧ s.alarms = [] ∧ s.overflow = 0 ∧ s.pallets = [] ∧ s.orders = [] ∧
        s.lastOrder = 0) ∧
      (∀ p, s.port p =
        { role := match p with
            | .A => rec.roleA
            | .B => rec.roleB
            | .C => rec.roleC
          request := none, response := none, flags := 0x80, mask := 0xFF, selection := none, sdo := [] }) ∧
      (∀ e, s.node e = { kind := none, address := none, enabled := false, state := .disabled, misses := 0, bad := 0, payload := none }) ∧
      (∀ n, s.probe n =
        { enabled := false, node := none, channel := 0, kind := .air, owner := none, cal := none, cond := .unused, value := none
          clamped := false }) ∧
      (∀ r, s.room r =
        { enabled := false
          cfg := { warn := -180, alarm := -150, critical := -120, hysteresis := 10, shift := 2, surcharge := 30, reportFalls := false
                   baseFrost := 2, concurrency := 1 }
          filter := none, temp := -180, band := .normal, probeLost := false, tempAlarm := .none, defrosting := false }) ∧
      (∀ b, s.bay b =
        { enabled := false, room := 0, node := none
          cfg := { grantWindow := 120, sealedLimit := 1800, unsealedLimit := 120, sealLevel := 120, leakLevel := 80, seatTime := 30 }
          shutter := .unknown, held := false, pressure := 0, sealState := .none, seatStart := none, cond := .lost, grant := .none
          causes := { master := false, node := false, room := false }, request := none, granted := [], grantedAt := none
          openedAt := none, limitKind := none, deadline := none, extUsed := 0, extTotal := 0, button := none }) ∧
      (∀ r, s.load r = { normal := 24, defrost := 8, committed := 0, coils := 0, claim := .none }) ∧
      (∀ c, s.coil c =
        { enabled := false, room := 0
          cfg := { requestLevel := 40000, alarmLevel := 55000, maxDefrost := 2400, maxWait := 3600, heatTime := 300, heatLevel := 0 }
          state := .disabled, frost := 0, due := false, probe := none, temp := none, waitStart := none, delayed := false
          defrostStart := none, heatOpen := false, heatConfirmed := false, waitExp := none, defrostExp := none, heatExp := none }) ∧
      (∀ r, s.defrost r = { carry := 0, waiting := [], claim := .none }) ∧
      (∀ l, s.lane l =
        { enabled := false, room := 0, depth := 12, quarantine := false, pallets := [], reservations := 0, sourceOf := none }) ∧
      (∀ b, s.truck b = { pallets := [], sourceOf := none }) ∧
      s.loadTable = { sealed := 2, seating := 6, leaking := 12, noTruck := 10, fault := 12, lost := 12 } ∧
      s.line = { rate := .r38400, window := 10, missLimit := 3, period := 10, ms := 0, nextPass := 1000, exchange := none, crc := 0xFFFF
                 tx := [] } ∧
      s.frostTimer = { period := 15, start := 0, length := 15 } ∧ s.expTimer = { inForce := 10, start := 0, next := 10, last := none } ∧
      (s.coilsOk ∧ s.reportsOk ∧ s.alarmsOk ∧ s.palletsOk ∧ s.marksOk ∧ s.ordersOk ∧ s.lanesOk ∧ s.readyOk ∧
        ∀ r, (s.load r).committed = s.loadSum r)

/-- R162, R165, R171: a request in progress is checked before its block sees it: a payload length above 250 or other than the payload's is
answered with FRAME, a code outside the catalogue with UNKNOWN, a role the catalogue does not list for it with ROLE, a payload length that fits
no form of the request with FRAME; READY goes high, and nothing else changes. (READ_PALLET's form byte: log entry 13. The widths that
`requestLengths` takes for values R171 gives no form: log entry 11.) -/
def Obligations.RequestsAreCheckedForFrameAndRole : Prop :=
  ∀ (s : State) (p : PortId) (code : Byte) (rest : List Byte), s.hold = none → (s.port p).request = some (code :: rest) →
    let framed := ∃ payload : List Byte, payload.length ≤ 250 ∧ rest = BitVec.ofNat 8 payload.length :: payload
    (∀ c : Instr, c.request = some (p, code.toNat) →
        (¬ framed → exec c s = .next (respond p (.bare .frame) s)) ∧
          (∀ roles, framed → catalogue code.toNat = some roles → (s.port p).role ∉ roles →
            exec c s = .next (respond p (.bare .role) s)) ∧
          (∀ roles, framed → catalogue code.toNat = some roles → (s.port p).role ∈ roles →
            rest.length - 1 ∉ requestLengths code.toNat → exec c s = .next (respond p (.bare .frame) s))) ∧
      (catalogue code.toNat = none →
        (framed → exec (.unknownRequest p) s = .next (respond p (.bare .unknown) s)) ∧
          (¬ framed → exec (.unknownRequest p) s = .next (respond p (.bare .frame) s)))

/-- R162, R165: a request refused, but for PICK and DROP, changes nothing but that its answer is placed; a request taken on a MONITOR port changes
nothing but its own port. -/
def Obligations.RefusalsAndMonitorsChangeNothing : Prop :=
  (∀ (s t : State) (c : Instr) (p : PortId) (code : Nat) (rest : List Byte) (r : Response), c.request = some (p, code) →
      (∀ q, c ≠ .pick q ∧ c ≠ .drop q) → s.hold = none → (s.port p).request = some (BitVec.ofNat 8 code :: rest) → exec c s = .next t →
      (t.port p).response = some r → r.status ≠ .ok → t = respond p r s) ∧
    ∀ (s t : State) (c : Instr) (p : PortId) (code : Nat), c.request = some (p, code) → (s.port p).role = .monitor →
      exec c s = .next t → t = { s with ports := t.ports } ∧ ∀ q, q ≠ p → t.port q = s.port q

/-- R19, R48, R65, R85, R102, R114, R134, R143, R159, R168, R171, R172: the reads are open to every role, answer with their records, field by
field, and change nothing else. A record with lists holds the longest run of its whole items that fits 250 bytes; a name's byte is its place in
its list, and a set has a bit for each name.
(Layouts that the spec leaves open: log entries 11, 14, 15, 30, 33, 35, 37, 38, 39, 41.) -/
def Obligations.ReadsAnswerTheirRecords : Prop :=
  (∀ items : List (List Byte), ∃ k, k ≤ items.length ∧ payloadOf items = (items.take k).flatten ∧ (items.take k).flatten.length ≤ 250 ∧
      (k < items.length → 250 < (items.take (k + 1)).flatten.length)) ∧
    (∀ (n : Nat) (i : Int) (b : Bool) (k : Nat) (v : List Byte),
      w1 n = [BitVec.ofNat 8 n] ∧ w2 n = w1 (n / 256) ++ w1 n ∧ w4 n = w1 (n / 16777216) ++ w1 (n / 65536) ++ w1 (n / 256) ++ w1 n ∧
        i2 i = w2 (i % 65536).toNat ∧ i4 i = w4 (i % 4294967296).toNat ∧ yn b = w1 b.toNat ∧
        optional k (some v) = 1 :: v ∧ optional k none = 0 :: List.replicate k 0) ∧
    ([Role.plant, .dock, .fleet, .monitor].map Role.code = List.range 4 ∧
      [ResetCause.powerOn, .pin, .supplyDip].map causeCode = List.range 3 ∧
      [Status.ok, .none, .frame, .unknown, .role, .range, .notEnabled, .inUse, .state, .full, .duplicate, .notFound, .lockedOut, .limit, .empty,
        .wrongPallet, .palletHeld, .laneFull, .bayNotOpen, .wrongLocation, .notCarried].map Status.code = List.range' 1 21 ∧
      [AlarmKind.roomWarn, .roomAlarm, .roomCritical, .roomNoProbe, .probeFault, .nodeLost, .bayOverdue, .bayForced, .sealLeak, .frostHigh,
        .defrostOverrun, .defrostWarming, .defrostNoHeat, .defrostDelayed, .palletWarn, .palletHeld, .mispick, .misdrop].map
          (fun k => (k.code, k.severity)) =
        (List.range 18).zip [1, 2, 3, 2, 1, 2, 2, 2, 1, 2, 3, 2, 2, 1, 1, 2, 1, 2] ∧
      [AlarmState.activeUnacked, .activeAcked, .clearedUnacked].map AlarmState.code = List.range 3 ∧
      [NodeKind.bay, .probe].map NodeKind.code = List.range 2 ∧
      [NodeState.disabled, .unknown, .online, .lost].map NodeState.code = List.range 4 ∧
      [LineRate.r19200, .r38400, .r57600, .r115200].map LineRate.code = List.range 4 ∧
      [ProbeCond.unused, .ok, .fault, .stale].map ProbeCond.code = List.range 4 ∧
      [Band.normal, .warn, .alarm, .critical].map Band.code = List.range 4 ∧
      [RoomAlarm.none, .warn, .alarm, .critical, .warming].map RoomAlarm.code = List.range 5 ∧
      [Shutter.closed, .moving, .open_, .fault, .unknown].map Shutter.code = List.range 5 ∧
      [Seal.none, .seating, .sealed, .leaking].map Seal.code = List.range 4 ∧
      [Condition.sealed, .seating, .leaking, .noTruck, .fault, .lost].map Condition.code = List.range 6 ∧
      [Grant.none, .requested, .granted, .active, .overdue, .forced].map Grant.code = List.range 6 ∧
      [Origin.dock, .local_, .order].map Origin.code = List.range 3 ∧ [LimitKind.sealed, .unsealed].map LimitKind.code = List.range 2 ∧
      [Claim.none, .soft, .hard].map Claim.code = List.range 3 ∧
      [CoilState.disabled, .running, .pending, .defrost, .overrun].map CoilState.code = List.range 5 ∧
      [Mode.single, .run, .lane].map Mode.code = List.range 3 ∧ [ListEnd.front, .back].map ListEnd.code = List.range 2 ∧
      [OrderState.waiting, .ready, .dispatched, .carrying, .exception, .done, .cancelled].map OrderState.code = List.range 7 ∧
      [WaitReason.bay, .destFull, .destWarm].map WaitReason.code = List.range 3 ∧
      [ExcCause.misdrop, .grantLapsed, .released, .short, .held, .palletGone].map ExcCause.code = List.range 6 ∧
      [Flag.rooms, .bays, .defrost, .pallets, .orders, .alarms, .line, .reset].map Flag.bit = [1, 2, 4, 8, 16, 32, 64, 128]) ∧
    ∀ (s : State) (p : PortId),
      let role := (s.port p).role
      let ok (payload : List Byte) : Host.Outcome State Fault Refusal := .next (respond p { status := .ok, payload := payload } s)
      let place (ep : Endpoint) : List Byte :=
        match ep with
        | .lane l => w1 0 ++ w1 l.val
        | .bay b => w1 1 ++ w1 b.val
      let numbers (l : List Nat) : List Byte := w1 l.length ++ l.flatMap w2
      let stateOf (o : Order) : List Byte :=
        w1 o.state.code ++ optional 1 (o.reason.map fun r => w1 r.code) ++ optional 1 (o.cause.map fun c => w1 c.code)
      let palletOf (x : Pallet) : List Byte :=
        w4 x.id ++ i2 x.limit ++ w4 x.budget ++ w4 x.exposure ++
          (match x.place with
            | .lane l => w1 0 ++ w2 l.val ++ (1 :: w1 ((s.lane l).pallets.idxOf x.id))
            | .truck b => w1 1 ++ w2 b.val ++ (1 :: w1 ((s.truck b).pallets.idxOf x.id))
            | .carried n => w1 2 ++ w2 n ++ [0, 0]) ++
          yn x.warned ++ yn x.held ++ yn x.released ++ w4 x.admittedAt
      let free := w2 (512 - s.pallets.length)
      (∀ r : RoomId, s.asks p role 0x14 (w1 r.val) →
          let x := s.room r
          let air := (List.finRange 64).filter fun n =>
            (s.probe n).enabled && (s.probe n).kind == .air && (s.probe n).owner == some (.room r)
          exec (.readRoom p) s =
            ok (payloadOf
              ([yn x.enabled ++ i2 x.cfg.warn ++ i2 x.cfg.alarm ++ i2 x.cfg.critical ++ w1 x.cfg.hysteresis.toNat ++ w1 x.cfg.shift ++
                  w1 x.cfg.surcharge.toNat ++ yn x.cfg.reportFalls ++ w2 x.cfg.baseFrost ++ w1 x.cfg.concurrency ++
                  optional 2 (x.filter.map i2) ++ i2 x.temp ++ w1 x.band.code ++ yn x.probeLost ++ w1 x.tempAlarm.code ++ yn x.defrosting,
                w1 air.length] ++
                air.map fun n =>
                  let y := s.probe n
                  w1 n.val ++ w1 ((y.node.map (·.val)).getD 0) ++ w1 y.channel.val ++ w1 y.cond.code ++ optional 2 (y.value.map i2) ++
                    yn y.clamped))) ∧
        (∀ b : BayId, s.asks p role 0x26 (w1 b.val) →
          let x := s.bay b
          exec (.readBay p) s =
            ok (payloadOf
              [yn x.enabled ++ w1 x.room.val ++ w1 ((x.node.map (·.val)).getD 0) ++ w2 x.cfg.grantWindow ++ w2 x.cfg.sealedLimit ++
                  w2 x.cfg.unsealedLimit ++ w1 x.cfg.sealLevel ++ w1 x.cfg.leakLevel ++ w2 x.cfg.seatTime,
                w1 x.shutter.code ++ yn x.held ++ w1 x.pressure ++ w1 x.sealState.code ++ optional 4 (x.seatStart.map w4) ++ w1 x.cond.code,
                w1 x.grant.code ++ w1 (x.causes.master.toNat + 2 * x.causes.node.toNat + 4 * x.causes.room.toNat),
                optional 4 (x.request.map fun q => w1 q.origin.code ++ w1 q.priority ++ yn (s.urgent q) ++ numbers q.linked),
                numbers x.granted,
                optional 4 (x.grantedAt.map w4) ++ optional 4 (x.openedAt.map w4) ++ optional 1 (x.limitKind.map fun k => w1 k.code) ++
                  optional 4 (x.deadline.map w4),
                w1 x.extUsed ++ w2 x.extTotal ++ optional 1 (x.button.map w1) ++ w1 (s.truck b).pallets.length])) ∧
        (∀ r : RoomId, s.asks p role 0x2A (w1 r.val) →
          let x := s.load r
          let w := s.loadTable
          let committed := (List.finRange 32).filter fun b =>
            (s.bay b).enabled && (s.bay b).room == r && [Grant.granted, .active, .overdue, .forced].contains (s.bay b).grant
          exec (.readLoad p) s =
            ok (payloadOf
              ([w1 w.sealed ++ w1 w.seating ++ w1 w.leaking ++ w1 w.noTruck ++ w1 w.fault ++ w1 w.lost,
                w1 x.normal ++ w1 x.defrost ++ w2 x.committed ++ w1 x.coils ++ w1 x.claim.code, w1 committed.length] ++
                (committed.map fun b => w1 b.val ++ w1 (s.bay b).grant.code ++ w1 (s.bay b).cond.code ++ w1 (s.weightOf b)) ++
                [w1 (s.queueOf r).length] ++
                (s.queueOf r).map fun b =>
                  ((s.bay b).request.map fun q =>
                    w1 b.val ++ w1 q.origin.code ++ w1 q.priority ++ yn (s.urgent q) ++ numbers q.linked ++ w1 (s.budgetFor r b)).getD []))) ∧
        (∀ c : CoilId, s.asks p role 0x36 (w1 c.val) →
          let x := s.coil c
          let d := s.defrost x.room
          exec (.readCoil p) s =
            ok (payloadOf
              ([yn x.enabled ++ w1 x.room.val ++ w2 x.cfg.requestLevel ++ w2 x.cfg.alarmLevel ++ w2 x.cfg.maxDefrost ++ w2 x.cfg.maxWait ++
                  w2 x.cfg.heatTime ++ i2 x.cfg.heatLevel,
                w1 x.state.code ++ w2 x.frost ++ yn x.due,
                optional 4 (x.waitStart.map w4) ++ optional 4 (x.defrostStart.map w4) ++ yn x.delayed ++ yn x.heatOpen ++ yn x.heatConfirmed,
                optional 16 (x.probe.map fun n =>
                  let y := s.probe n
                  w1 n.val ++ w1 ((y.node.map (·.val)).getD 0) ++ w1 y.channel.val ++ w1 y.cond.code ++
                    ((y.cal.map fun k => w2 k.loCount ++ w2 k.hiCount ++ i2 k.loRef ++ i2 k.hiRef).getD [0, 0, 0, 0, 0, 0, 0, 0]) ++
                    optional 2 (y.value.map i2) ++ yn y.clamped),
                w2 d.carry ++ w1 d.claim.code, w1 d.waiting.length] ++ (d.waiting.map fun c => w1 c.val) ++
                [w1 (s.defrostingCount x.room) ++ w1 (s.concurrencyOf x.room),
                 w2 s.frostTimer.period ++ w4 (s.frostTimer.start + s.frostTimer.length)]))) ∧
        (∀ l : LaneId, s.asks p role 0x47 (w1 l.val) →
          let x := s.lane l
          exec (.readLane p) s =
            ok (payloadOf
              ([yn x.enabled ++ w1 x.room.val ++ w1 x.depth ++ yn x.quarantine ++ w1 x.pallets.length ++ w1 x.reservations ++
                  w1 (x.depth - x.pallets.length - x.reservations) ++ optional 2 (x.sourceOf.map w2), w1 x.pallets.length] ++
                x.pallets.map w4))) ∧
        (∀ x : Pallet, s.asks p role 0x48 (w1 0 ++ w4 x.id) → 1 ≤ x.id → x.id ≤ 99999999 → s.pallet x.id = some x →
          exec (.readPallet p) s = ok (palletOf x ++ free)) ∧
        (∀ (ep : Endpoint) (start : Nat), s.asks p role 0x48 (w1 1 ++ place ep ++ w1 start) → start ≤ 29 →
          let list := s.listAt ep
          let shown := ((list.drop start).take 8).filterMap s.pallet
          exec (.readPallet p) s =
            .next (respond p
              { status := if list.length ≤ start then .none else .ok
                payload :=
                  payloadOf
                    ([w1 list.length ++ optional 2 ((s.sourceOf ep).map w2), w1 shown.length] ++ shown.map palletOf ++ [free]) } s)) ∧
        (s.asks p role 0x4D [] →
          let x := s.expTimer
          let count (f : Pallet → Bool) : List Byte := w2 (s.pallets.filter f).length
          exec (.readExposure p) s =
            ok (w2 x.inForce ++ w4 x.start ++ w4 (x.start + x.inForce) ++ w2 x.next ++ optional 4 (x.last.map w4) ++
              ((List.finRange 8).flatMap fun r =>
                let y := s.room r
                yn y.enabled ++ i2 y.temp ++ yn y.probeLost ++ w1 y.cfg.surcharge.toNat ++
                  i2 (if y.enabled ∧ y.probeLost then min (y.temp + y.cfg.surcharge) 500 else y.temp)) ++
              (count (fun _ => true) ++ count (·.warned) ++ count (·.held) ++ count (·.released)))) ∧
        (∀ o : Order, s.asks p role 0x54 (w2 o.num) → 1 ≤ o.num → o.num ≤ 65535 → s.order o.num = some o →
          let list := s.listAt o.source
          let lead : Option Nat :=
            if o.state = .done ∨ o.state = .cancelled then none
            else if o.state = .carrying then o.carried
            else if o.mode = .single then some o.named
            else if o.pickEnd = .front then list.head?
            else list.getLast?
          exec (.readOrder p) s =
            ok (w1 1 ++ w2 o.num ++ w1 o.mode.code ++ place o.source ++ w1 o.pickEnd.code ++ w4 o.named ++ place o.dest ++
              w1 o.placement.code ++ w1 o.requested ++ w1 o.done ++ w1 o.priority ++ stateOf o ++ optional 4 (o.carried.map w4) ++
              yn o.leadWarned ++ yn o.cancelPending ++ w4 o.createdAt ++ optional 4 (o.endedAt.map w4) ++ optional 4 (lead.map w4))) ∧
        (s.asks p role 0x54 (w2 0) →
          ∃ os : List Order, os.Perm s.orders ∧ (os.Pairwise fun a b => a.num ≤ b.num) ∧
            exec (.readOrder p) s =
              .next (respond p
                { status := if s.orders = [] then .none else .ok
                  payload :=
                    payloadOf
                      ([w2 s.lastOrder, w1 os.length] ++
                        os.map fun o => w2 o.num ++ w1 o.mode.code ++ stateOf o ++ w1 o.requested ++ w1 o.done) } s)) ∧
        (∀ start : Nat, s.asks p role 0x61 (w1 start) → start ≤ 63 →
          let view := s.alarms.filter fun e => decide (role = .monitor ∨ role ∈ e.roles)
          exec (.readAlarms p) s =
            .next (respond p
              { status := if view.length ≤ start then .none else .ok
                payload := w1 view.length ++ w1 s.alarms.length ++ w2 s.overflow ++ ((view.drop start).take 15).flatMap fun e =>
                  w4 (e.kind.code * 2 ^ 27 + e.subject) ++
                    w1 (e.state.code + 4 * e.kind.severity + if e.value.isSome then 128 else 0) ++ w1 e.repeats ++ w4 e.last ++
                    w2 (min 65535 (e.last - e.first)) ++ i4 (e.value.getD 0) } s)) ∧
        (∀ e : EntryId, s.asks p role 0x74 (w1 e.val) →
          let x := s.node e
          exec (.readNode p) s =
            ok (optional 1 (x.kind.map fun k => w1 k.code) ++ optional 1 (x.address.map w1) ++ yn x.enabled ++ w1 x.state.code ++
              w1 x.misses ++ w2 x.bad ++ optional 9 (x.payload.map fun l => (l ++ List.replicate 9 0).take 9) ++ w1 s.line.rate.code ++
              w1 s.line.window ++ w1 s.line.missLimit ++ w1 s.line.period ++ w2 (s.line.nextPass - s.line.ms))) ∧
        (s.asks p role 0x7E [] →
          let x := s.resetRec
          exec (.readResetCause p) s =
            ok (w1 (causeCode x.cause) ++ w1 x.roleA.code ++ w1 x.roleB.code ++ w1 x.roleC.code ++ yn x.demotedA ++ yn x.demotedB ++
              yn x.demotedC ++ w1 x.count ++ w1 role.code ++ w4 s.clock))

/-- R161 to R163: a selection that begins with READY low gets ones and is ignored. Another clocks out the response held, then zeros, and consumes
it once every byte has gone; the whole bytes received, most significant bit first, are the request put in progress, unless there are none or the
first is 0x00. A selection that ends a long pulse carries nothing (R169).
(SDO after the 10 ms, and commands without a selection: log entries 16, 17.) -/
def Obligations.SelectionsCarryRequestAndResponse : Prop :=
  ∀ (s : State) (p : PortId), s.hold = none →
    let x := s.port p
    let bits (l : List Byte) : List Bool := l.flatMap fun b => [7, 6, 5, 4, 3, 2, 1, 0].map b.getLsbD
    (x.selection = none →
        exec (.selectionBegin p) s =
          .next (s.modPort p fun c => { c with selection := some { busy := x.request.isSome, pulsed := false }, sdo := [] })) ∧
      ∀ (sel : Selection) (l : List Byte) (tail : List Bool), x.selection = some sel → tail.length < 8 →
        let sdi := bits l ++ tail
        let n := sdi.length
        let frame (r : Response) : List Byte := BitVec.ofNat 8 r.status.code :: BitVec.ofNat 8 r.payload.length :: r.payload
        let out := if sel.busy then List.replicate n true
          else if sel.pulsed then List.replicate n false
          else (bits ((x.response.map frame).getD []) ++ List.replicate n false).take n
        let idle := sel.busy = true ∨ sel.pulsed = true
        exec (.selectionEnd p sdi) s =
          .next (s.modPort p fun c =>
            { c with selection := none, sdo := c.sdo ++ out
                     response := if idle then c.response else c.response.filter fun r => decide (n < 8 * (2 + r.payload.length))
                     request := if idle ∨ l = [] ∨ l.head? = some 0 then c.request else some l })

/-- R131, R147, R169: SEL# low for 10 ms, once in a selection, and PORT_RESET return a port to no response, no flag and a full mask; its role and
request stand. On the FLEET port each DISPATCHED order is evaluated, as by ABANDON. -/
def Obligations.PortResetReturnsThePort : Prop :=
  ∀ (s : State) (p : PortId), s.ordersOk →
    let cleared (c : PortCtx) : PortCtx := { c with response := none, flags := 0, mask := 0xFF }
    let abandoned (t : State) : Prop :=
      ∀ o ∈ s.orders, o.state = .dispatched → t.order o.num = some (s.evaluated .ready o)
    (∀ sel sdi, s.hold = none → (s.port p).selection = some sel → sel.pulsed = false →
        ∃ t,
          let s1 := s.modPort p fun c => { cleared c with selection := some { sel with pulsed := true }, sdo := (t.port p).sdo }
          exec (.longSelPulse p sdi) s = .next t ∧ (t.port p).sdo.length = (s.port p).sdo.length + sdi.length ∧
            ((s.port p).role ≠ .fleet → t = s1) ∧ ((s.port p).role = .fleet → abandoned t ∧ t.unsettled = s1.unsettled)) ∧
      (s.asks p (s.port p).role 0x7F [] →
        ∃ t, exec (.portReset p) s = .next t ∧
          ((s.port p).role ≠ .fleet → t = respond p (.bare .ok) (s.modPort p cleared)) ∧
          ((s.port p).role = .fleet → abandoned t ∧ t.unsettled = (respond p (.bare .ok) (s.modPort p cleared)).unsettled))
end

