-- ==== Sys2Proof/Laws/Word.lean ====
section
/-! SUPPORT. Reading and writing a table of records; saturating sums; lists put in order. -/

namespace Sys2Proof

variable {α : Type} {n : Nat}

@[simp] theorem tget_tset_same (t : Tab α n) (i : Fin n) (a : α) : tget (tset t i a) i = a := by
  simp [tget, tset]

theorem tget_tset_ne (t : Tab α n) {i j : Fin n} (a : α) (h : j ≠ i) : tget (tset t i a) j = tget t j := by
  have : i.val ≠ j.val := fun e => h (Fin.ext e.symm)
  simp [tget, tset, this]

theorem tget_tset (t : Tab α n) (i j : Fin n) (a : α) : tget (tset t i a) j = if j = i then a else tget t j := by
  by_cases h : j = i
  · subst h; simp
  · simp [tget_tset_ne t a h, h]

@[simp] theorem tget_tmod_same (t : Tab α n) (i : Fin n) (f : α → α) : tget (tmod t i f) i = f (tget t i) := by
  simp [tmod]

theorem tget_tmod_ne (t : Tab α n) {i j : Fin n} (f : α → α) (h : j ≠ i) : tget (tmod t i f) j = tget t j :=
  tget_tset_ne t _ h

theorem tget_tmod (t : Tab α n) (i j : Fin n) (f : α → α) :
    tget (tmod t i f) j = if j = i then f (tget t i) else tget t j := tget_tset t i j _

@[simp] theorem tget_tfill (a : α) (i : Fin n) : tget (tfill n a) i = a := by simp [tget, tfill]

/-- Two tables are equal when all their records are. -/
theorem tab_ext {t u : Tab α n} (h : ∀ i, tget t i = tget u i) : t = u := by
  apply Vector.ext
  intro i hi
  exact h ⟨i, hi⟩

@[simp] theorem mem_idsOf (i : Fin n) : i ∈ idsOf n := List.mem_finRange i

theorem satAdd_le (top a b : Nat) : satAdd top a b ≤ top := Nat.min_le_left _ _

theorem le_satAdd {top a b : Nat} (h : a ≤ top) : a ≤ satAdd top a b := by
  simp only [satAdd]; omega

/-- Putting an element into a list adds it, wherever it goes. -/
theorem insertBy_perm (before : α → α → Bool) (a : α) (l : List α) : (insertBy before a l).Perm (a :: l) := by
  induction l with
  | nil => exact .refl _
  | cons b bs ih =>
    simp only [insertBy]
    split
    · exact .refl _
    · exact (ih.cons b).trans (.swap a b bs)

/-- Putting a list in order keeps its elements. -/
theorem sortBy_perm (before : α → α → Bool) (l : List α) : (sortBy before l).Perm l := by
  induction l with
  | nil => exact .refl _
  | cons a l ih => exact (insertBy_perm before a _).trans (ih.cons a)

@[simp] theorem mem_sortBy (before : α → α → Bool) (a : α) (l : List α) : a ∈ sortBy before l ↔ a ∈ l :=
  (sortBy_perm before l).mem_iff

@[simp] theorem length_sortBy (before : α → α → Bool) (l : List α) : (sortBy before l).length = l.length :=
  (sortBy_perm before l).length_eq

end Sys2Proof
end

