-- ==== Sys2Proof/Laws/State.lean ====
section
/-! SUPPORT. Each update of the state, field by field and record by record: what it leaves alone, and what it writes. -/

namespace Sys2Proof.Machine

variable (s : State)

/-! ### modPort -/

@[simp] theorem modPort_pending (p : PortId) (f : PortCtx → PortCtx) : (s.modPort p f).pending = s.pending := rfl
@[simp] theorem modPort_clock (p : PortId) (f : PortCtx → PortCtx) : (s.modPort p f).clock = s.clock := rfl
@[simp] theorem modPort_hold (p : PortId) (f : PortCtx → PortCtx) : (s.modPort p f).hold = s.hold := rfl
@[simp] theorem modPort_resetRec (p : PortId) (f : PortCtx → PortCtx) : (s.modPort p f).resetRec = s.resetRec := rfl
@[simp] theorem modPort_alarms (p : PortId) (f : PortCtx → PortCtx) : (s.modPort p f).alarms = s.alarms := rfl
@[simp] theorem modPort_overflow (p : PortId) (f : PortCtx → PortCtx) : (s.modPort p f).overflow = s.overflow := rfl
@[simp] theorem modPort_nodes (p : PortId) (f : PortCtx → PortCtx) : (s.modPort p f).nodes = s.nodes := rfl
@[simp] theorem modPort_line (p : PortId) (f : PortCtx → PortCtx) : (s.modPort p f).line = s.line := rfl
@[simp] theorem modPort_probes (p : PortId) (f : PortCtx → PortCtx) : (s.modPort p f).probes = s.probes := rfl
@[simp] theorem modPort_rooms (p : PortId) (f : PortCtx → PortCtx) : (s.modPort p f).rooms = s.rooms := rfl
@[simp] theorem modPort_loadTable (p : PortId) (f : PortCtx → PortCtx) : (s.modPort p f).loadTable = s.loadTable := rfl
@[simp] theorem modPort_loads (p : PortId) (f : PortCtx → PortCtx) : (s.modPort p f).loads = s.loads := rfl
@[simp] theorem modPort_bays (p : PortId) (f : PortCtx → PortCtx) : (s.modPort p f).bays = s.bays := rfl
@[simp] theorem modPort_coils (p : PortId) (f : PortCtx → PortCtx) : (s.modPort p f).coils = s.coils := rfl
@[simp] theorem modPort_defrosts (p : PortId) (f : PortCtx → PortCtx) : (s.modPort p f).defrosts = s.defrosts := rfl
@[simp] theorem modPort_frostTimer (p : PortId) (f : PortCtx → PortCtx) : (s.modPort p f).frostTimer = s.frostTimer := rfl
@[simp] theorem modPort_pallets (p : PortId) (f : PortCtx → PortCtx) : (s.modPort p f).pallets = s.pallets := rfl
@[simp] theorem modPort_lanes (p : PortId) (f : PortCtx → PortCtx) : (s.modPort p f).lanes = s.lanes := rfl
@[simp] theorem modPort_trucks (p : PortId) (f : PortCtx → PortCtx) : (s.modPort p f).trucks = s.trucks := rfl
@[simp] theorem modPort_expTimer (p : PortId) (f : PortCtx → PortCtx) : (s.modPort p f).expTimer = s.expTimer := rfl
@[simp] theorem modPort_orders (p : PortId) (f : PortCtx → PortCtx) : (s.modPort p f).orders = s.orders := rfl
@[simp] theorem modPort_lastOrder (p : PortId) (f : PortCtx → PortCtx) : (s.modPort p f).lastOrder = s.lastOrder := rfl
@[simp] theorem modPort_node (p : PortId) (f : PortCtx → PortCtx) (x : EntryId) : (s.modPort p f).node x = s.node x := rfl
@[simp] theorem modPort_probe (p : PortId) (f : PortCtx → PortCtx) (x : ProbeId) : (s.modPort p f).probe x = s.probe x := rfl
@[simp] theorem modPort_room (p : PortId) (f : PortCtx → PortCtx) (x : RoomId) : (s.modPort p f).room x = s.room x := rfl
@[simp] theorem modPort_load (p : PortId) (f : PortCtx → PortCtx) (x : RoomId) : (s.modPort p f).load x = s.load x := rfl
@[simp] theorem modPort_bay (p : PortId) (f : PortCtx → PortCtx) (x : BayId) : (s.modPort p f).bay x = s.bay x := rfl
@[simp] theorem modPort_coil (p : PortId) (f : PortCtx → PortCtx) (x : CoilId) : (s.modPort p f).coil x = s.coil x := rfl
@[simp] theorem modPort_defrost (p : PortId) (f : PortCtx → PortCtx) (x : RoomId) : (s.modPort p f).defrost x = s.defrost x := rfl
@[simp] theorem modPort_lane (p : PortId) (f : PortCtx → PortCtx) (x : LaneId) : (s.modPort p f).lane x = s.lane x := rfl
@[simp] theorem modPort_truck (p : PortId) (f : PortCtx → PortCtx) (x : BayId) : (s.modPort p f).truck x = s.truck x := rfl
@[simp] theorem modPort_pallet (p : PortId) (f : PortCtx → PortCtx) (x : Nat) : (s.modPort p f).pallet x = s.pallet x := rfl
@[simp] theorem modPort_order (p : PortId) (f : PortCtx → PortCtx) (x : Nat) : (s.modPort p f).order x = s.order x := rfl

/-! ### modNode -/

@[simp] theorem modNode_pending (e : EntryId) (f : NodeEntry → NodeEntry) : (s.modNode e f).pending = s.pending := rfl
@[simp] theorem modNode_clock (e : EntryId) (f : NodeEntry → NodeEntry) : (s.modNode e f).clock = s.clock := rfl
@[simp] theorem modNode_hold (e : EntryId) (f : NodeEntry → NodeEntry) : (s.modNode e f).hold = s.hold := rfl
@[simp] theorem modNode_resetRec (e : EntryId) (f : NodeEntry → NodeEntry) : (s.modNode e f).resetRec = s.resetRec := rfl
@[simp] theorem modNode_ports (e : EntryId) (f : NodeEntry → NodeEntry) : (s.modNode e f).ports = s.ports := rfl
@[simp] theorem modNode_alarms (e : EntryId) (f : NodeEntry → NodeEntry) : (s.modNode e f).alarms = s.alarms := rfl
@[simp] theorem modNode_overflow (e : EntryId) (f : NodeEntry → NodeEntry) : (s.modNode e f).overflow = s.overflow := rfl
@[simp] theorem modNode_line (e : EntryId) (f : NodeEntry → NodeEntry) : (s.modNode e f).line = s.line := rfl
@[simp] theorem modNode_probes (e : EntryId) (f : NodeEntry → NodeEntry) : (s.modNode e f).probes = s.probes := rfl
@[simp] theorem modNode_rooms (e : EntryId) (f : NodeEntry → NodeEntry) : (s.modNode e f).rooms = s.rooms := rfl
@[simp] theorem modNode_loadTable (e : EntryId) (f : NodeEntry → NodeEntry) : (s.modNode e f).loadTable = s.loadTable := rfl
@[simp] theorem modNode_loads (e : EntryId) (f : NodeEntry → NodeEntry) : (s.modNode e f).loads = s.loads := rfl
@[simp] theorem modNode_bays (e : EntryId) (f : NodeEntry → NodeEntry) : (s.modNode e f).bays = s.bays := rfl
@[simp] theorem modNode_coils (e : EntryId) (f : NodeEntry → NodeEntry) : (s.modNode e f).coils = s.coils := rfl
@[simp] theorem modNode_defrosts (e : EntryId) (f : NodeEntry → NodeEntry) : (s.modNode e f).defrosts = s.defrosts := rfl
@[simp] theorem modNode_frostTimer (e : EntryId) (f : NodeEntry → NodeEntry) : (s.modNode e f).frostTimer = s.frostTimer := rfl
@[simp] theorem modNode_pallets (e : EntryId) (f : NodeEntry → NodeEntry) : (s.modNode e f).pallets = s.pallets := rfl
@[simp] theorem modNode_lanes (e : EntryId) (f : NodeEntry → NodeEntry) : (s.modNode e f).lanes = s.lanes := rfl
@[simp] theorem modNode_trucks (e : EntryId) (f : NodeEntry → NodeEntry) : (s.modNode e f).trucks = s.trucks := rfl
@[simp] theorem modNode_expTimer (e : EntryId) (f : NodeEntry → NodeEntry) : (s.modNode e f).expTimer = s.expTimer := rfl
@[simp] theorem modNode_orders (e : EntryId) (f : NodeEntry → NodeEntry) : (s.modNode e f).orders = s.orders := rfl
@[simp] theorem modNode_lastOrder (e : EntryId) (f : NodeEntry → NodeEntry) : (s.modNode e f).lastOrder = s.lastOrder := rfl
@[simp] theorem modNode_port (e : EntryId) (f : NodeEntry → NodeEntry) (q : PortId) : (s.modNode e f).port q = s.port q := rfl
@[simp] theorem modNode_probe (e : EntryId) (f : NodeEntry → NodeEntry) (x : ProbeId) : (s.modNode e f).probe x = s.probe x := rfl
@[simp] theorem modNode_room (e : EntryId) (f : NodeEntry → NodeEntry) (x : RoomId) : (s.modNode e f).room x = s.room x := rfl
@[simp] theorem modNode_load (e : EntryId) (f : NodeEntry → NodeEntry) (x : RoomId) : (s.modNode e f).load x = s.load x := rfl
@[simp] theorem modNode_bay (e : EntryId) (f : NodeEntry → NodeEntry) (x : BayId) : (s.modNode e f).bay x = s.bay x := rfl
@[simp] theorem modNode_coil (e : EntryId) (f : NodeEntry → NodeEntry) (x : CoilId) : (s.modNode e f).coil x = s.coil x := rfl
@[simp] theorem modNode_defrost (e : EntryId) (f : NodeEntry → NodeEntry) (x : RoomId) : (s.modNode e f).defrost x = s.defrost x := rfl
@[simp] theorem modNode_lane (e : EntryId) (f : NodeEntry → NodeEntry) (x : LaneId) : (s.modNode e f).lane x = s.lane x := rfl
@[simp] theorem modNode_truck (e : EntryId) (f : NodeEntry → NodeEntry) (x : BayId) : (s.modNode e f).truck x = s.truck x := rfl
@[simp] theorem modNode_pallet (e : EntryId) (f : NodeEntry → NodeEntry) (x : Nat) : (s.modNode e f).pallet x = s.pallet x := rfl
@[simp] theorem modNode_order (e : EntryId) (f : NodeEntry → NodeEntry) (x : Nat) : (s.modNode e f).order x = s.order x := rfl

/-! ### modProbe -/

@[simp] theorem modProbe_pending (n : ProbeId) (f : Probe → Probe) : (s.modProbe n f).pending = s.pending := rfl
@[simp] theorem modProbe_clock (n : ProbeId) (f : Probe → Probe) : (s.modProbe n f).clock = s.clock := rfl
@[simp] theorem modProbe_hold (n : ProbeId) (f : Probe → Probe) : (s.modProbe n f).hold = s.hold := rfl
@[simp] theorem modProbe_resetRec (n : ProbeId) (f : Probe → Probe) : (s.modProbe n f).resetRec = s.resetRec := rfl
@[simp] theorem modProbe_ports (n : ProbeId) (f : Probe → Probe) : (s.modProbe n f).ports = s.ports := rfl
@[simp] theorem modProbe_alarms (n : ProbeId) (f : Probe → Probe) : (s.modProbe n f).alarms = s.alarms := rfl
@[simp] theorem modProbe_overflow (n : ProbeId) (f : Probe → Probe) : (s.modProbe n f).overflow = s.overflow := rfl
@[simp] theorem modProbe_nodes (n : ProbeId) (f : Probe → Probe) : (s.modProbe n f).nodes = s.nodes := rfl
@[simp] theorem modProbe_line (n : ProbeId) (f : Probe → Probe) : (s.modProbe n f).line = s.line := rfl
@[simp] theorem modProbe_rooms (n : ProbeId) (f : Probe → Probe) : (s.modProbe n f).rooms = s.rooms := rfl
@[simp] theorem modProbe_loadTable (n : ProbeId) (f : Probe → Probe) : (s.modProbe n f).loadTable = s.loadTable := rfl
@[simp] theorem modProbe_loads (n : ProbeId) (f : Probe → Probe) : (s.modProbe n f).loads = s.loads := rfl
@[simp] theorem modProbe_bays (n : ProbeId) (f : Probe → Probe) : (s.modProbe n f).bays = s.bays := rfl
@[simp] theorem modProbe_coils (n : ProbeId) (f : Probe → Probe) : (s.modProbe n f).coils = s.coils := rfl
@[simp] theorem modProbe_defrosts (n : ProbeId) (f : Probe → Probe) : (s.modProbe n f).defrosts = s.defrosts := rfl
@[simp] theorem modProbe_frostTimer (n : ProbeId) (f : Probe → Probe) : (s.modProbe n f).frostTimer = s.frostTimer := rfl
@[simp] theorem modProbe_pallets (n : ProbeId) (f : Probe → Probe) : (s.modProbe n f).pallets = s.pallets := rfl
@[simp] theorem modProbe_lanes (n : ProbeId) (f : Probe → Probe) : (s.modProbe n f).lanes = s.lanes := rfl
@[simp] theorem modProbe_trucks (n : ProbeId) (f : Probe → Probe) : (s.modProbe n f).trucks = s.trucks := rfl
@[simp] theorem modProbe_expTimer (n : ProbeId) (f : Probe → Probe) : (s.modProbe n f).expTimer = s.expTimer := rfl
@[simp] theorem modProbe_orders (n : ProbeId) (f : Probe → Probe) : (s.modProbe n f).orders = s.orders := rfl
@[simp] theorem modProbe_lastOrder (n : ProbeId) (f : Probe → Probe) : (s.modProbe n f).lastOrder = s.lastOrder := rfl
@[simp] theorem modProbe_port (n : ProbeId) (f : Probe → Probe) (q : PortId) : (s.modProbe n f).port q = s.port q := rfl
@[simp] theorem modProbe_node (n : ProbeId) (f : Probe → Probe) (x : EntryId) : (s.modProbe n f).node x = s.node x := rfl
@[simp] theorem modProbe_room (n : ProbeId) (f : Probe → Probe) (x : RoomId) : (s.modProbe n f).room x = s.room x := rfl
@[simp] theorem modProbe_load (n : ProbeId) (f : Probe → Probe) (x : RoomId) : (s.modProbe n f).load x = s.load x := rfl
@[simp] theorem modProbe_bay (n : ProbeId) (f : Probe → Probe) (x : BayId) : (s.modProbe n f).bay x = s.bay x := rfl
@[simp] theorem modProbe_coil (n : ProbeId) (f : Probe → Probe) (x : CoilId) : (s.modProbe n f).coil x = s.coil x := rfl
@[simp] theorem modProbe_defrost (n : ProbeId) (f : Probe → Probe) (x : RoomId) : (s.modProbe n f).defrost x = s.defrost x := rfl
@[simp] theorem modProbe_lane (n : ProbeId) (f : Probe → Probe) (x : LaneId) : (s.modProbe n f).lane x = s.lane x := rfl
@[simp] theorem modProbe_truck (n : ProbeId) (f : Probe → Probe) (x : BayId) : (s.modProbe n f).truck x = s.truck x := rfl
@[simp] theorem modProbe_pallet (n : ProbeId) (f : Probe → Probe) (x : Nat) : (s.modProbe n f).pallet x = s.pallet x := rfl
@[simp] theorem modProbe_order (n : ProbeId) (f : Probe → Probe) (x : Nat) : (s.modProbe n f).order x = s.order x := rfl

/-! ### modRoom -/

@[simp] theorem modRoom_pending (r : RoomId) (f : Room → Room) : (s.modRoom r f).pending = s.pending := rfl
@[simp] theorem modRoom_clock (r : RoomId) (f : Room → Room) : (s.modRoom r f).clock = s.clock := rfl
@[simp] theorem modRoom_hold (r : RoomId) (f : Room → Room) : (s.modRoom r f).hold = s.hold := rfl
@[simp] theorem modRoom_resetRec (r : RoomId) (f : Room → Room) : (s.modRoom r f).resetRec = s.resetRec := rfl
@[simp] theorem modRoom_ports (r : RoomId) (f : Room → Room) : (s.modRoom r f).ports = s.ports := rfl
@[simp] theorem modRoom_alarms (r : RoomId) (f : Room → Room) : (s.modRoom r f).alarms = s.alarms := rfl
@[simp] theorem modRoom_overflow (r : RoomId) (f : Room → Room) : (s.modRoom r f).overflow = s.overflow := rfl
@[simp] theorem modRoom_nodes (r : RoomId) (f : Room → Room) : (s.modRoom r f).nodes = s.nodes := rfl
@[simp] theorem modRoom_line (r : RoomId) (f : Room → Room) : (s.modRoom r f).line = s.line := rfl
@[simp] theorem modRoom_probes (r : RoomId) (f : Room → Room) : (s.modRoom r f).probes = s.probes := rfl
@[simp] theorem modRoom_loadTable (r : RoomId) (f : Room → Room) : (s.modRoom r f).loadTable = s.loadTable := rfl
@[simp] theorem modRoom_loads (r : RoomId) (f : Room → Room) : (s.modRoom r f).loads = s.loads := rfl
@[simp] theorem modRoom_bays (r : RoomId) (f : Room → Room) : (s.modRoom r f).bays = s.bays := rfl
@[simp] theorem modRoom_coils (r : RoomId) (f : Room → Room) : (s.modRoom r f).coils = s.coils := rfl
@[simp] theorem modRoom_defrosts (r : RoomId) (f : Room → Room) : (s.modRoom r f).defrosts = s.defrosts := rfl
@[simp] theorem modRoom_frostTimer (r : RoomId) (f : Room → Room) : (s.modRoom r f).frostTimer = s.frostTimer := rfl
@[simp] theorem modRoom_pallets (r : RoomId) (f : Room → Room) : (s.modRoom r f).pallets = s.pallets := rfl
@[simp] theorem modRoom_lanes (r : RoomId) (f : Room → Room) : (s.modRoom r f).lanes = s.lanes := rfl
@[simp] theorem modRoom_trucks (r : RoomId) (f : Room → Room) : (s.modRoom r f).trucks = s.trucks := rfl
@[simp] theorem modRoom_expTimer (r : RoomId) (f : Room → Room) : (s.modRoom r f).expTimer = s.expTimer := rfl
@[simp] theorem modRoom_orders (r : RoomId) (f : Room → Room) : (s.modRoom r f).orders = s.orders := rfl
@[simp] theorem modRoom_lastOrder (r : RoomId) (f : Room → Room) : (s.modRoom r f).lastOrder = s.lastOrder := rfl
@[simp] theorem modRoom_port (r : RoomId) (f : Room → Room) (q : PortId) : (s.modRoom r f).port q = s.port q := rfl
@[simp] theorem modRoom_node (r : RoomId) (f : Room → Room) (x : EntryId) : (s.modRoom r f).node x = s.node x := rfl
@[simp] theorem modRoom_probe (r : RoomId) (f : Room → Room) (x : ProbeId) : (s.modRoom r f).probe x = s.probe x := rfl
@[simp] theorem modRoom_load (r : RoomId) (f : Room → Room) (x : RoomId) : (s.modRoom r f).load x = s.load x := rfl
@[simp] theorem modRoom_bay (r : RoomId) (f : Room → Room) (x : BayId) : (s.modRoom r f).bay x = s.bay x := rfl
@[simp] theorem modRoom_coil (r : RoomId) (f : Room → Room) (x : CoilId) : (s.modRoom r f).coil x = s.coil x := rfl
@[simp] theorem modRoom_defrost (r : RoomId) (f : Room → Room) (x : RoomId) : (s.modRoom r f).defrost x = s.defrost x := rfl
@[simp] theorem modRoom_lane (r : RoomId) (f : Room → Room) (x : LaneId) : (s.modRoom r f).lane x = s.lane x := rfl
@[simp] theorem modRoom_truck (r : RoomId) (f : Room → Room) (x : BayId) : (s.modRoom r f).truck x = s.truck x := rfl
@[simp] theorem modRoom_pallet (r : RoomId) (f : Room → Room) (x : Nat) : (s.modRoom r f).pallet x = s.pallet x := rfl
@[simp] theorem modRoom_order (r : RoomId) (f : Room → Room) (x : Nat) : (s.modRoom r f).order x = s.order x := rfl

/-! ### modLoad -/

@[simp] theorem modLoad_pending (r : RoomId) (f : RoomLoad → RoomLoad) : (s.modLoad r f).pending = s.pending := rfl
@[simp] theorem modLoad_clock (r : RoomId) (f : RoomLoad → RoomLoad) : (s.modLoad r f).clock = s.clock := rfl
@[simp] theorem modLoad_hold (r : RoomId) (f : RoomLoad → RoomLoad) : (s.modLoad r f).hold = s.hold := rfl
@[simp] theorem modLoad_resetRec (r : RoomId) (f : RoomLoad → RoomLoad) : (s.modLoad r f).resetRec = s.resetRec := rfl
@[simp] theorem modLoad_ports (r : RoomId) (f : RoomLoad → RoomLoad) : (s.modLoad r f).ports = s.ports := rfl
@[simp] theorem modLoad_alarms (r : RoomId) (f : RoomLoad → RoomLoad) : (s.modLoad r f).alarms = s.alarms := rfl
@[simp] theorem modLoad_overflow (r : RoomId) (f : RoomLoad → RoomLoad) : (s.modLoad r f).overflow = s.overflow := rfl
@[simp] theorem modLoad_nodes (r : RoomId) (f : RoomLoad → RoomLoad) : (s.modLoad r f).nodes = s.nodes := rfl
@[simp] theorem modLoad_line (r : RoomId) (f : RoomLoad → RoomLoad) : (s.modLoad r f).line = s.line := rfl
@[simp] theorem modLoad_probes (r : RoomId) (f : RoomLoad → RoomLoad) : (s.modLoad r f).probes = s.probes := rfl
@[simp] theorem modLoad_rooms (r : RoomId) (f : RoomLoad → RoomLoad) : (s.modLoad r f).rooms = s.rooms := rfl
@[simp] theorem modLoad_loadTable (r : RoomId) (f : RoomLoad → RoomLoad) : (s.modLoad r f).loadTable = s.loadTable := rfl
@[simp] theorem modLoad_bays (r : RoomId) (f : RoomLoad → RoomLoad) : (s.modLoad r f).bays = s.bays := rfl
@[simp] theorem modLoad_coils (r : RoomId) (f : RoomLoad → RoomLoad) : (s.modLoad r f).coils = s.coils := rfl
@[simp] theorem modLoad_defrosts (r : RoomId) (f : RoomLoad → RoomLoad) : (s.modLoad r f).defrosts = s.defrosts := rfl
@[simp] theorem modLoad_frostTimer (r : RoomId) (f : RoomLoad → RoomLoad) : (s.modLoad r f).frostTimer = s.frostTimer := rfl
@[simp] theorem modLoad_pallets (r : RoomId) (f : RoomLoad → RoomLoad) : (s.modLoad r f).pallets = s.pallets := rfl
@[simp] theorem modLoad_lanes (r : RoomId) (f : RoomLoad → RoomLoad) : (s.modLoad r f).lanes = s.lanes := rfl
@[simp] theorem modLoad_trucks (r : RoomId) (f : RoomLoad → RoomLoad) : (s.modLoad r f).trucks = s.trucks := rfl
@[simp] theorem modLoad_expTimer (r : RoomId) (f : RoomLoad → RoomLoad) : (s.modLoad r f).expTimer = s.expTimer := rfl
@[simp] theorem modLoad_orders (r : RoomId) (f : RoomLoad → RoomLoad) : (s.modLoad r f).orders = s.orders := rfl
@[simp] theorem modLoad_lastOrder (r : RoomId) (f : RoomLoad → RoomLoad) : (s.modLoad r f).lastOrder = s.lastOrder := rfl
@[simp] theorem modLoad_port (r : RoomId) (f : RoomLoad → RoomLoad) (q : PortId) : (s.modLoad r f).port q = s.port q := rfl
@[simp] theorem modLoad_node (r : RoomId) (f : RoomLoad → RoomLoad) (x : EntryId) : (s.modLoad r f).node x = s.node x := rfl
@[simp] theorem modLoad_probe (r : RoomId) (f : RoomLoad → RoomLoad) (x : ProbeId) : (s.modLoad r f).probe x = s.probe x := rfl
@[simp] theorem modLoad_room (r : RoomId) (f : RoomLoad → RoomLoad) (x : RoomId) : (s.modLoad r f).room x = s.room x := rfl
@[simp] theorem modLoad_bay (r : RoomId) (f : RoomLoad → RoomLoad) (x : BayId) : (s.modLoad r f).bay x = s.bay x := rfl
@[simp] theorem modLoad_coil (r : RoomId) (f : RoomLoad → RoomLoad) (x : CoilId) : (s.modLoad r f).coil x = s.coil x := rfl
@[simp] theorem modLoad_defrost (r : RoomId) (f : RoomLoad → RoomLoad) (x : RoomId) : (s.modLoad r f).defrost x = s.defrost x := rfl
@[simp] theorem modLoad_lane (r : RoomId) (f : RoomLoad → RoomLoad) (x : LaneId) : (s.modLoad r f).lane x = s.lane x := rfl
@[simp] theorem modLoad_truck (r : RoomId) (f : RoomLoad → RoomLoad) (x : BayId) : (s.modLoad r f).truck x = s.truck x := rfl
@[simp] theorem modLoad_pallet (r : RoomId) (f : RoomLoad → RoomLoad) (x : Nat) : (s.modLoad r f).pallet x = s.pallet x := rfl
@[simp] theorem modLoad_order (r : RoomId) (f : RoomLoad → RoomLoad) (x : Nat) : (s.modLoad r f).order x = s.order x := rfl

/-! ### modBay -/

@[simp] theorem modBay_pending (b : BayId) (f : Bay → Bay) : (s.modBay b f).pending = s.pending := rfl
@[simp] theorem modBay_clock (b : BayId) (f : Bay → Bay) : (s.modBay b f).clock = s.clock := rfl
@[simp] theorem modBay_hold (b : BayId) (f : Bay → Bay) : (s.modBay b f).hold = s.hold := rfl
@[simp] theorem modBay_resetRec (b : BayId) (f : Bay → Bay) : (s.modBay b f).resetRec = s.resetRec := rfl
@[simp] theorem modBay_ports (b : BayId) (f : Bay → Bay) : (s.modBay b f).ports = s.ports := rfl
@[simp] theorem modBay_alarms (b : BayId) (f : Bay → Bay) : (s.modBay b f).alarms = s.alarms := rfl
@[simp] theorem modBay_overflow (b : BayId) (f : Bay → Bay) : (s.modBay b f).overflow = s.overflow := rfl
@[simp] theorem modBay_nodes (b : BayId) (f : Bay → Bay) : (s.modBay b f).nodes = s.nodes := rfl
@[simp] theorem modBay_line (b : BayId) (f : Bay → Bay) : (s.modBay b f).line = s.line := rfl
@[simp] theorem modBay_probes (b : BayId) (f : Bay → Bay) : (s.modBay b f).probes = s.probes := rfl
@[simp] theorem modBay_rooms (b : BayId) (f : Bay → Bay) : (s.modBay b f).rooms = s.rooms := rfl
@[simp] theorem modBay_loadTable (b : BayId) (f : Bay → Bay) : (s.modBay b f).loadTable = s.loadTable := rfl
@[simp] theorem modBay_loads (b : BayId) (f : Bay → Bay) : (s.modBay b f).loads = s.loads := rfl
@[simp] theorem modBay_coils (b : BayId) (f : Bay → Bay) : (s.modBay b f).coils = s.coils := rfl
@[simp] theorem modBay_defrosts (b : BayId) (f : Bay → Bay) : (s.modBay b f).defrosts = s.defrosts := rfl
@[simp] theorem modBay_frostTimer (b : BayId) (f : Bay → Bay) : (s.modBay b f).frostTimer = s.frostTimer := rfl
@[simp] theorem modBay_pallets (b : BayId) (f : Bay → Bay) : (s.modBay b f).pallets = s.pallets := rfl
@[simp] theorem modBay_lanes (b : BayId) (f : Bay → Bay) : (s.modBay b f).lanes = s.lanes := rfl
@[simp] theorem modBay_trucks (b : BayId) (f : Bay → Bay) : (s.modBay b f).trucks = s.trucks := rfl
@[simp] theorem modBay_expTimer (b : BayId) (f : Bay → Bay) : (s.modBay b f).expTimer = s.expTimer := rfl
@[simp] theorem modBay_orders (b : BayId) (f : Bay → Bay) : (s.modBay b f).orders = s.orders := rfl
@[simp] theorem modBay_lastOrder (b : BayId) (f : Bay → Bay) : (s.modBay b f).lastOrder = s.lastOrder := rfl
@[simp] theorem modBay_port (b : BayId) (f : Bay → Bay) (q : PortId) : (s.modBay b f).port q = s.port q := rfl
@[simp] theorem modBay_node (b : BayId) (f : Bay → Bay) (x : EntryId) : (s.modBay b f).node x = s.node x := rfl
@[simp] theorem modBay_probe (b : BayId) (f : Bay → Bay) (x : ProbeId) : (s.modBay b f).probe x = s.probe x := rfl
@[simp] theorem modBay_room (b : BayId) (f : Bay → Bay) (x : RoomId) : (s.modBay b f).room x = s.room x := rfl
@[simp] theorem modBay_load (b : BayId) (f : Bay → Bay) (x : RoomId) : (s.modBay b f).load x = s.load x := rfl
@[simp] theorem modBay_coil (b : BayId) (f : Bay → Bay) (x : CoilId) : (s.modBay b f).coil x = s.coil x := rfl
@[simp] theorem modBay_defrost (b : BayId) (f : Bay → Bay) (x : RoomId) : (s.modBay b f).defrost x = s.defrost x := rfl
@[simp] theorem modBay_lane (b : BayId) (f : Bay → Bay) (x : LaneId) : (s.modBay b f).lane x = s.lane x := rfl
@[simp] theorem modBay_truck (b : BayId) (f : Bay → Bay) (x : BayId) : (s.modBay b f).truck x = s.truck x := rfl
@[simp] theorem modBay_pallet (b : BayId) (f : Bay → Bay) (x : Nat) : (s.modBay b f).pallet x = s.pallet x := rfl
@[simp] theorem modBay_order (b : BayId) (f : Bay → Bay) (x : Nat) : (s.modBay b f).order x = s.order x := rfl

/-! ### modCoil -/

@[simp] theorem modCoil_pending (c : CoilId) (f : Coil → Coil) : (s.modCoil c f).pending = s.pending := rfl
@[simp] theorem modCoil_clock (c : CoilId) (f : Coil → Coil) : (s.modCoil c f).clock = s.clock := rfl
@[simp] theorem modCoil_hold (c : CoilId) (f : Coil → Coil) : (s.modCoil c f).hold = s.hold := rfl
@[simp] theorem modCoil_resetRec (c : CoilId) (f : Coil → Coil) : (s.modCoil c f).resetRec = s.resetRec := rfl
@[simp] theorem modCoil_ports (c : CoilId) (f : Coil → Coil) : (s.modCoil c f).ports = s.ports := rfl
@[simp] theorem modCoil_alarms (c : CoilId) (f : Coil → Coil) : (s.modCoil c f).alarms = s.alarms := rfl
@[simp] theorem modCoil_overflow (c : CoilId) (f : Coil → Coil) : (s.modCoil c f).overflow = s.overflow := rfl
@[simp] theorem modCoil_nodes (c : CoilId) (f : Coil → Coil) : (s.modCoil c f).nodes = s.nodes := rfl
@[simp] theorem modCoil_line (c : CoilId) (f : Coil → Coil) : (s.modCoil c f).line = s.line := rfl
@[simp] theorem modCoil_probes (c : CoilId) (f : Coil → Coil) : (s.modCoil c f).probes = s.probes := rfl
@[simp] theorem modCoil_rooms (c : CoilId) (f : Coil → Coil) : (s.modCoil c f).rooms = s.rooms := rfl
@[simp] theorem modCoil_loadTable (c : CoilId) (f : Coil → Coil) : (s.modCoil c f).loadTable = s.loadTable := rfl
@[simp] theorem modCoil_loads (c : CoilId) (f : Coil → Coil) : (s.modCoil c f).loads = s.loads := rfl
@[simp] theorem modCoil_bays (c : CoilId) (f : Coil → Coil) : (s.modCoil c f).bays = s.bays := rfl
@[simp] theorem modCoil_defrosts (c : CoilId) (f : Coil → Coil) : (s.modCoil c f).defrosts = s.defrosts := rfl
@[simp] theorem modCoil_frostTimer (c : CoilId) (f : Coil → Coil) : (s.modCoil c f).frostTimer = s.frostTimer := rfl
@[simp] theorem modCoil_pallets (c : CoilId) (f : Coil → Coil) : (s.modCoil c f).pallets = s.pallets := rfl
@[simp] theorem modCoil_lanes (c : CoilId) (f : Coil → Coil) : (s.modCoil c f).lanes = s.lanes := rfl
@[simp] theorem modCoil_trucks (c : CoilId) (f : Coil → Coil) : (s.modCoil c f).trucks = s.trucks := rfl
@[simp] theorem modCoil_expTimer (c : CoilId) (f : Coil → Coil) : (s.modCoil c f).expTimer = s.expTimer := rfl
@[simp] theorem modCoil_orders (c : CoilId) (f : Coil → Coil) : (s.modCoil c f).orders = s.orders := rfl
@[simp] theorem modCoil_lastOrder (c : CoilId) (f : Coil → Coil) : (s.modCoil c f).lastOrder = s.lastOrder := rfl
@[simp] theorem modCoil_port (c : CoilId) (f : Coil → Coil) (q : PortId) : (s.modCoil c f).port q = s.port q := rfl
@[simp] theorem modCoil_node (c : CoilId) (f : Coil → Coil) (x : EntryId) : (s.modCoil c f).node x = s.node x := rfl
@[simp] theorem modCoil_probe (c : CoilId) (f : Coil → Coil) (x : ProbeId) : (s.modCoil c f).probe x = s.probe x := rfl
@[simp] theorem modCoil_room (c : CoilId) (f : Coil → Coil) (x : RoomId) : (s.modCoil c f).room x = s.room x := rfl
@[simp] theorem modCoil_load (c : CoilId) (f : Coil → Coil) (x : RoomId) : (s.modCoil c f).load x = s.load x := rfl
@[simp] theorem modCoil_bay (c : CoilId) (f : Coil → Coil) (x : BayId) : (s.modCoil c f).bay x = s.bay x := rfl
@[simp] theorem modCoil_defrost (c : CoilId) (f : Coil → Coil) (x : RoomId) : (s.modCoil c f).defrost x = s.defrost x := rfl
@[simp] theorem modCoil_lane (c : CoilId) (f : Coil → Coil) (x : LaneId) : (s.modCoil c f).lane x = s.lane x := rfl
@[simp] theorem modCoil_truck (c : CoilId) (f : Coil → Coil) (x : BayId) : (s.modCoil c f).truck x = s.truck x := rfl
@[simp] theorem modCoil_pallet (c : CoilId) (f : Coil → Coil) (x : Nat) : (s.modCoil c f).pallet x = s.pallet x := rfl
@[simp] theorem modCoil_order (c : CoilId) (f : Coil → Coil) (x : Nat) : (s.modCoil c f).order x = s.order x := rfl

/-! ### modDefrost -/

@[simp] theorem modDefrost_pending (r : RoomId) (f : RoomDefrost → RoomDefrost) : (s.modDefrost r f).pending = s.pending := rfl
@[simp] theorem modDefrost_clock (r : RoomId) (f : RoomDefrost → RoomDefrost) : (s.modDefrost r f).clock = s.clock := rfl
@[simp] theorem modDefrost_hold (r : RoomId) (f : RoomDefrost → RoomDefrost) : (s.modDefrost r f).hold = s.hold := rfl
@[simp] theorem modDefrost_resetRec (r : RoomId) (f : RoomDefrost → RoomDefrost) : (s.modDefrost r f).resetRec = s.resetRec := rfl
@[simp] theorem modDefrost_ports (r : RoomId) (f : RoomDefrost → RoomDefrost) : (s.modDefrost r f).ports = s.ports := rfl
@[simp] theorem modDefrost_alarms (r : RoomId) (f : RoomDefrost → RoomDefrost) : (s.modDefrost r f).alarms = s.alarms := rfl
@[simp] theorem modDefrost_overflow (r : RoomId) (f : RoomDefrost → RoomDefrost) : (s.modDefrost r f).overflow = s.overflow := rfl
@[simp] theorem modDefrost_nodes (r : RoomId) (f : RoomDefrost → RoomDefrost) : (s.modDefrost r f).nodes = s.nodes := rfl
@[simp] theorem modDefrost_line (r : RoomId) (f : RoomDefrost → RoomDefrost) : (s.modDefrost r f).line = s.line := rfl
@[simp] theorem modDefrost_probes (r : RoomId) (f : RoomDefrost → RoomDefrost) : (s.modDefrost r f).probes = s.probes := rfl
@[simp] theorem modDefrost_rooms (r : RoomId) (f : RoomDefrost → RoomDefrost) : (s.modDefrost r f).rooms = s.rooms := rfl
@[simp] theorem modDefrost_loadTable (r : RoomId) (f : RoomDefrost → RoomDefrost) : (s.modDefrost r f).loadTable = s.loadTable := rfl
@[simp] theorem modDefrost_loads (r : RoomId) (f : RoomDefrost → RoomDefrost) : (s.modDefrost r f).loads = s.loads := rfl
@[simp] theorem modDefrost_bays (r : RoomId) (f : RoomDefrost → RoomDefrost) : (s.modDefrost r f).bays = s.bays := rfl
@[simp] theorem modDefrost_coils (r : RoomId) (f : RoomDefrost → RoomDefrost) : (s.modDefrost r f).coils = s.coils := rfl
@[simp] theorem modDefrost_frostTimer (r : RoomId) (f : RoomDefrost → RoomDefrost) : (s.modDefrost r f).frostTimer = s.frostTimer := rfl
@[simp] theorem modDefrost_pallets (r : RoomId) (f : RoomDefrost → RoomDefrost) : (s.modDefrost r f).pallets = s.pallets := rfl
@[simp] theorem modDefrost_lanes (r : RoomId) (f : RoomDefrost → RoomDefrost) : (s.modDefrost r f).lanes = s.lanes := rfl
@[simp] theorem modDefrost_trucks (r : RoomId) (f : RoomDefrost → RoomDefrost) : (s.modDefrost r f).trucks = s.trucks := rfl
@[simp] theorem modDefrost_expTimer (r : RoomId) (f : RoomDefrost → RoomDefrost) : (s.modDefrost r f).expTimer = s.expTimer := rfl
@[simp] theorem modDefrost_orders (r : RoomId) (f : RoomDefrost → RoomDefrost) : (s.modDefrost r f).orders = s.orders := rfl
@[simp] theorem modDefrost_lastOrder (r : RoomId) (f : RoomDefrost → RoomDefrost) : (s.modDefrost r f).lastOrder = s.lastOrder := rfl
@[simp] theorem modDefrost_port (r : RoomId) (f : RoomDefrost → RoomDefrost) (q : PortId) : (s.modDefrost r f).port q = s.port q := rfl
@[simp] theorem modDefrost_node (r : RoomId) (f : RoomDefrost → RoomDefrost) (x : EntryId) : (s.modDefrost r f).node x = s.node x := rfl
@[simp] theorem modDefrost_probe (r : RoomId) (f : RoomDefrost → RoomDefrost) (x : ProbeId) : (s.modDefrost r f).probe x = s.probe x := rfl
@[simp] theorem modDefrost_room (r : RoomId) (f : RoomDefrost → RoomDefrost) (x : RoomId) : (s.modDefrost r f).room x = s.room x := rfl
@[simp] theorem modDefrost_load (r : RoomId) (f : RoomDefrost → RoomDefrost) (x : RoomId) : (s.modDefrost r f).load x = s.load x := rfl
@[simp] theorem modDefrost_bay (r : RoomId) (f : RoomDefrost → RoomDefrost) (x : BayId) : (s.modDefrost r f).bay x = s.bay x := rfl
@[simp] theorem modDefrost_coil (r : RoomId) (f : RoomDefrost → RoomDefrost) (x : CoilId) : (s.modDefrost r f).coil x = s.coil x := rfl
@[simp] theorem modDefrost_lane (r : RoomId) (f : RoomDefrost → RoomDefrost) (x : LaneId) : (s.modDefrost r f).lane x = s.lane x := rfl
@[simp] theorem modDefrost_truck (r : RoomId) (f : RoomDefrost → RoomDefrost) (x : BayId) : (s.modDefrost r f).truck x = s.truck x := rfl
@[simp] theorem modDefrost_pallet (r : RoomId) (f : RoomDefrost → RoomDefrost) (x : Nat) : (s.modDefrost r f).pallet x = s.pallet x := rfl
@[simp] theorem modDefrost_order (r : RoomId) (f : RoomDefrost → RoomDefrost) (x : Nat) : (s.modDefrost r f).order x = s.order x := rfl

/-! ### modLane -/

@[simp] theorem modLane_pending (l : LaneId) (f : Lane → Lane) : (s.modLane l f).pending = s.pending := rfl
@[simp] theorem modLane_clock (l : LaneId) (f : Lane → Lane) : (s.modLane l f).clock = s.clock := rfl
@[simp] theorem modLane_hold (l : LaneId) (f : Lane → Lane) : (s.modLane l f).hold = s.hold := rfl
@[simp] theorem modLane_resetRec (l : LaneId) (f : Lane → Lane) : (s.modLane l f).resetRec = s.resetRec := rfl
@[simp] theorem modLane_ports (l : LaneId) (f : Lane → Lane) : (s.modLane l f).ports = s.ports := rfl
@[simp] theorem modLane_alarms (l : LaneId) (f : Lane → Lane) : (s.modLane l f).alarms = s.alarms := rfl
@[simp] theorem modLane_overflow (l : LaneId) (f : Lane → Lane) : (s.modLane l f).overflow = s.overflow := rfl
@[simp] theorem modLane_nodes (l : LaneId) (f : Lane → Lane) : (s.modLane l f).nodes = s.nodes := rfl
@[simp] theorem modLane_line (l : LaneId) (f : Lane → Lane) : (s.modLane l f).line = s.line := rfl
@[simp] theorem modLane_probes (l : LaneId) (f : Lane → Lane) : (s.modLane l f).probes = s.probes := rfl
@[simp] theorem modLane_rooms (l : LaneId) (f : Lane → Lane) : (s.modLane l f).rooms = s.rooms := rfl
@[simp] theorem modLane_loadTable (l : LaneId) (f : Lane → Lane) : (s.modLane l f).loadTable = s.loadTable := rfl
@[simp] theorem modLane_loads (l : LaneId) (f : Lane → Lane) : (s.modLane l f).loads = s.loads := rfl
@[simp] theorem modLane_bays (l : LaneId) (f : Lane → Lane) : (s.modLane l f).bays = s.bays := rfl
@[simp] theorem modLane_coils (l : LaneId) (f : Lane → Lane) : (s.modLane l f).coils = s.coils := rfl
@[simp] theorem modLane_defrosts (l : LaneId) (f : Lane → Lane) : (s.modLane l f).defrosts = s.defrosts := rfl
@[simp] theorem modLane_frostTimer (l : LaneId) (f : Lane → Lane) : (s.modLane l f).frostTimer = s.frostTimer := rfl
@[simp] theorem modLane_pallets (l : LaneId) (f : Lane → Lane) : (s.modLane l f).pallets = s.pallets := rfl
@[simp] theorem modLane_trucks (l : LaneId) (f : Lane → Lane) : (s.modLane l f).trucks = s.trucks := rfl
@[simp] theorem modLane_expTimer (l : LaneId) (f : Lane → Lane) : (s.modLane l f).expTimer = s.expTimer := rfl
@[simp] theorem modLane_orders (l : LaneId) (f : Lane → Lane) : (s.modLane l f).orders = s.orders := rfl
@[simp] theorem modLane_lastOrder (l : LaneId) (f : Lane → Lane) : (s.modLane l f).lastOrder = s.lastOrder := rfl
@[simp] theorem modLane_port (l : LaneId) (f : Lane → Lane) (q : PortId) : (s.modLane l f).port q = s.port q := rfl
@[simp] theorem modLane_node (l : LaneId) (f : Lane → Lane) (x : EntryId) : (s.modLane l f).node x = s.node x := rfl
@[simp] theorem modLane_probe (l : LaneId) (f : Lane → Lane) (x : ProbeId) : (s.modLane l f).probe x = s.probe x := rfl
@[simp] theorem modLane_room (l : LaneId) (f : Lane → Lane) (x : RoomId) : (s.modLane l f).room x = s.room x := rfl
@[simp] theorem modLane_load (l : LaneId) (f : Lane → Lane) (x : RoomId) : (s.modLane l f).load x = s.load x := rfl
@[simp] theorem modLane_bay (l : LaneId) (f : Lane → Lane) (x : BayId) : (s.modLane l f).bay x = s.bay x := rfl
@[simp] theorem modLane_coil (l : LaneId) (f : Lane → Lane) (x : CoilId) : (s.modLane l f).coil x = s.coil x := rfl
@[simp] theorem modLane_defrost (l : LaneId) (f : Lane → Lane) (x : RoomId) : (s.modLane l f).defrost x = s.defrost x := rfl
@[simp] theorem modLane_truck (l : LaneId) (f : Lane → Lane) (x : BayId) : (s.modLane l f).truck x = s.truck x := rfl
@[simp] theorem modLane_pallet (l : LaneId) (f : Lane → Lane) (x : Nat) : (s.modLane l f).pallet x = s.pallet x := rfl
@[simp] theorem modLane_order (l : LaneId) (f : Lane → Lane) (x : Nat) : (s.modLane l f).order x = s.order x := rfl

/-! ### modTruck -/

@[simp] theorem modTruck_pending (b : BayId) (f : Truck → Truck) : (s.modTruck b f).pending = s.pending := rfl
@[simp] theorem modTruck_clock (b : BayId) (f : Truck → Truck) : (s.modTruck b f).clock = s.clock := rfl
@[simp] theorem modTruck_hold (b : BayId) (f : Truck → Truck) : (s.modTruck b f).hold = s.hold := rfl
@[simp] theorem modTruck_resetRec (b : BayId) (f : Truck → Truck) : (s.modTruck b f).resetRec = s.resetRec := rfl
@[simp] theorem modTruck_ports (b : BayId) (f : Truck → Truck) : (s.modTruck b f).ports = s.ports := rfl
@[simp] theorem modTruck_alarms (b : BayId) (f : Truck → Truck) : (s.modTruck b f).alarms = s.alarms := rfl
@[simp] theorem modTruck_overflow (b : BayId) (f : Truck → Truck) : (s.modTruck b f).overflow = s.overflow := rfl
@[simp] theorem modTruck_nodes (b : BayId) (f : Truck → Truck) : (s.modTruck b f).nodes = s.nodes := rfl
@[simp] theorem modTruck_line (b : BayId) (f : Truck → Truck) : (s.modTruck b f).line = s.line := rfl
@[simp] theorem modTruck_probes (b : BayId) (f : Truck → Truck) : (s.modTruck b f).probes = s.probes := rfl
@[simp] theorem modTruck_rooms (b : BayId) (f : Truck → Truck) : (s.modTruck b f).rooms = s.rooms := rfl
@[simp] theorem modTruck_loadTable (b : BayId) (f : Truck → Truck) : (s.modTruck b f).loadTable = s.loadTable := rfl
@[simp] theorem modTruck_loads (b : BayId) (f : Truck → Truck) : (s.modTruck b f).loads = s.loads := rfl
@[simp] theorem modTruck_bays (b : BayId) (f : Truck → Truck) : (s.modTruck b f).bays = s.bays := rfl
@[simp] theorem modTruck_coils (b : BayId) (f : Truck → Truck) : (s.modTruck b f).coils = s.coils := rfl
@[simp] theorem modTruck_defrosts (b : BayId) (f : Truck → Truck) : (s.modTruck b f).defrosts = s.defrosts := rfl
@[simp] theorem modTruck_frostTimer (b : BayId) (f : Truck → Truck) : (s.modTruck b f).frostTimer = s.frostTimer := rfl
@[simp] theorem modTruck_pallets (b : BayId) (f : Truck → Truck) : (s.modTruck b f).pallets = s.pallets := rfl
@[simp] theorem modTruck_lanes (b : BayId) (f : Truck → Truck) : (s.modTruck b f).lanes = s.lanes := rfl
@[simp] theorem modTruck_expTimer (b : BayId) (f : Truck → Truck) : (s.modTruck b f).expTimer = s.expTimer := rfl
@[simp] theorem modTruck_orders (b : BayId) (f : Truck → Truck) : (s.modTruck b f).orders = s.orders := rfl
@[simp] theorem modTruck_lastOrder (b : BayId) (f : Truck → Truck) : (s.modTruck b f).lastOrder = s.lastOrder := rfl
@[simp] theorem modTruck_port (b : BayId) (f : Truck → Truck) (q : PortId) : (s.modTruck b f).port q = s.port q := rfl
@[simp] theorem modTruck_node (b : BayId) (f : Truck → Truck) (x : EntryId) : (s.modTruck b f).node x = s.node x := rfl
@[simp] theorem modTruck_probe (b : BayId) (f : Truck → Truck) (x : ProbeId) : (s.modTruck b f).probe x = s.probe x := rfl
@[simp] theorem modTruck_room (b : BayId) (f : Truck → Truck) (x : RoomId) : (s.modTruck b f).room x = s.room x := rfl
@[simp] theorem modTruck_load (b : BayId) (f : Truck → Truck) (x : RoomId) : (s.modTruck b f).load x = s.load x := rfl
@[simp] theorem modTruck_bay (b : BayId) (f : Truck → Truck) (x : BayId) : (s.modTruck b f).bay x = s.bay x := rfl
@[simp] theorem modTruck_coil (b : BayId) (f : Truck → Truck) (x : CoilId) : (s.modTruck b f).coil x = s.coil x := rfl
@[simp] theorem modTruck_defrost (b : BayId) (f : Truck → Truck) (x : RoomId) : (s.modTruck b f).defrost x = s.defrost x := rfl
@[simp] theorem modTruck_lane (b : BayId) (f : Truck → Truck) (x : LaneId) : (s.modTruck b f).lane x = s.lane x := rfl
@[simp] theorem modTruck_pallet (b : BayId) (f : Truck → Truck) (x : Nat) : (s.modTruck b f).pallet x = s.pallet x := rfl
@[simp] theorem modTruck_order (b : BayId) (f : Truck → Truck) (x : Nat) : (s.modTruck b f).order x = s.order x := rfl

/-! ### modLine -/

@[simp] theorem modLine_pending (f : Line → Line) : (s.modLine f).pending = s.pending := rfl
@[simp] theorem modLine_clock (f : Line → Line) : (s.modLine f).clock = s.clock := rfl
@[simp] theorem modLine_hold (f : Line → Line) : (s.modLine f).hold = s.hold := rfl
@[simp] theorem modLine_resetRec (f : Line → Line) : (s.modLine f).resetRec = s.resetRec := rfl
@[simp] theorem modLine_ports (f : Line → Line) : (s.modLine f).ports = s.ports := rfl
@[simp] theorem modLine_alarms (f : Line → Line) : (s.modLine f).alarms = s.alarms := rfl
@[simp] theorem modLine_overflow (f : Line → Line) : (s.modLine f).overflow = s.overflow := rfl
@[simp] theorem modLine_nodes (f : Line → Line) : (s.modLine f).nodes = s.nodes := rfl
@[simp] theorem modLine_probes (f : Line → Line) : (s.modLine f).probes = s.probes := rfl
@[simp] theorem modLine_rooms (f : Line → Line) : (s.modLine f).rooms = s.rooms := rfl
@[simp] theorem modLine_loadTable (f : Line → Line) : (s.modLine f).loadTable = s.loadTable := rfl
@[simp] theorem modLine_loads (f : Line → Line) : (s.modLine f).loads = s.loads := rfl
@[simp] theorem modLine_bays (f : Line → Line) : (s.modLine f).bays = s.bays := rfl
@[simp] theorem modLine_coils (f : Line → Line) : (s.modLine f).coils = s.coils := rfl
@[simp] theorem modLine_defrosts (f : Line → Line) : (s.modLine f).defrosts = s.defrosts := rfl
@[simp] theorem modLine_frostTimer (f : Line → Line) : (s.modLine f).frostTimer = s.frostTimer := rfl
@[simp] theorem modLine_pallets (f : Line → Line) : (s.modLine f).pallets = s.pallets := rfl
@[simp] theorem modLine_lanes (f : Line → Line) : (s.modLine f).lanes = s.lanes := rfl
@[simp] theorem modLine_trucks (f : Line → Line) : (s.modLine f).trucks = s.trucks := rfl
@[simp] theorem modLine_expTimer (f : Line → Line) : (s.modLine f).expTimer = s.expTimer := rfl
@[simp] theorem modLine_orders (f : Line → Line) : (s.modLine f).orders = s.orders := rfl
@[simp] theorem modLine_lastOrder (f : Line → Line) : (s.modLine f).lastOrder = s.lastOrder := rfl
@[simp] theorem modLine_port (f : Line → Line) (q : PortId) : (s.modLine f).port q = s.port q := rfl
@[simp] theorem modLine_node (f : Line → Line) (x : EntryId) : (s.modLine f).node x = s.node x := rfl
@[simp] theorem modLine_probe (f : Line → Line) (x : ProbeId) : (s.modLine f).probe x = s.probe x := rfl
@[simp] theorem modLine_room (f : Line → Line) (x : RoomId) : (s.modLine f).room x = s.room x := rfl
@[simp] theorem modLine_load (f : Line → Line) (x : RoomId) : (s.modLine f).load x = s.load x := rfl
@[simp] theorem modLine_bay (f : Line → Line) (x : BayId) : (s.modLine f).bay x = s.bay x := rfl
@[simp] theorem modLine_coil (f : Line → Line) (x : CoilId) : (s.modLine f).coil x = s.coil x := rfl
@[simp] theorem modLine_defrost (f : Line → Line) (x : RoomId) : (s.modLine f).defrost x = s.defrost x := rfl
@[simp] theorem modLine_lane (f : Line → Line) (x : LaneId) : (s.modLine f).lane x = s.lane x := rfl
@[simp] theorem modLine_truck (f : Line → Line) (x : BayId) : (s.modLine f).truck x = s.truck x := rfl
@[simp] theorem modLine_pallet (f : Line → Line) (x : Nat) : (s.modLine f).pallet x = s.pallet x := rfl
@[simp] theorem modLine_order (f : Line → Line) (x : Nat) : (s.modLine f).order x = s.order x := rfl

/-! ### modPallet -/

@[simp] theorem modPallet_pending (id : Nat) (f : Pallet → Pallet) : (s.modPallet id f).pending = s.pending := rfl
@[simp] theorem modPallet_clock (id : Nat) (f : Pallet → Pallet) : (s.modPallet id f).clock = s.clock := rfl
@[simp] theorem modPallet_hold (id : Nat) (f : Pallet → Pallet) : (s.modPallet id f).hold = s.hold := rfl
@[simp] theorem modPallet_resetRec (id : Nat) (f : Pallet → Pallet) : (s.modPallet id f).resetRec = s.resetRec := rfl
@[simp] theorem modPallet_ports (id : Nat) (f : Pallet → Pallet) : (s.modPallet id f).ports = s.ports := rfl
@[simp] theorem modPallet_alarms (id : Nat) (f : Pallet → Pallet) : (s.modPallet id f).alarms = s.alarms := rfl
@[simp] theorem modPallet_overflow (id : Nat) (f : Pallet → Pallet) : (s.modPallet id f).overflow = s.overflow := rfl
@[simp] theorem modPallet_nodes (id : Nat) (f : Pallet → Pallet) : (s.modPallet id f).nodes = s.nodes := rfl
@[simp] theorem modPallet_line (id : Nat) (f : Pallet → Pallet) : (s.modPallet id f).line = s.line := rfl
@[simp] theorem modPallet_probes (id : Nat) (f : Pallet → Pallet) : (s.modPallet id f).probes = s.probes := rfl
@[simp] theorem modPallet_rooms (id : Nat) (f : Pallet → Pallet) : (s.modPallet id f).rooms = s.rooms := rfl
@[simp] theorem modPallet_loadTable (id : Nat) (f : Pallet → Pallet) : (s.modPallet id f).loadTable = s.loadTable := rfl
@[simp] theorem modPallet_loads (id : Nat) (f : Pallet → Pallet) : (s.modPallet id f).loads = s.loads := rfl
@[simp] theorem modPallet_bays (id : Nat) (f : Pallet → Pallet) : (s.modPallet id f).bays = s.bays := rfl
@[simp] theorem modPallet_coils (id : Nat) (f : Pallet → Pallet) : (s.modPallet id f).coils = s.coils := rfl
@[simp] theorem modPallet_defrosts (id : Nat) (f : Pallet → Pallet) : (s.modPallet id f).defrosts = s.defrosts := rfl
@[simp] theorem modPallet_frostTimer (id : Nat) (f : Pallet → Pallet) : (s.modPallet id f).frostTimer = s.frostTimer := rfl
@[simp] theorem modPallet_lanes (id : Nat) (f : Pallet → Pallet) : (s.modPallet id f).lanes = s.lanes := rfl
@[simp] theorem modPallet_trucks (id : Nat) (f : Pallet → Pallet) : (s.modPallet id f).trucks = s.trucks := rfl
@[simp] theorem modPallet_expTimer (id : Nat) (f : Pallet → Pallet) : (s.modPallet id f).expTimer = s.expTimer := rfl
@[simp] theorem modPallet_orders (id : Nat) (f : Pallet → Pallet) : (s.modPallet id f).orders = s.orders := rfl
@[simp] theorem modPallet_lastOrder (id : Nat) (f : Pallet → Pallet) : (s.modPallet id f).lastOrder = s.lastOrder := rfl
@[simp] theorem modPallet_port (id : Nat) (f : Pallet → Pallet) (q : PortId) : (s.modPallet id f).port q = s.port q := rfl
@[simp] theorem modPallet_node (id : Nat) (f : Pallet → Pallet) (x : EntryId) : (s.modPallet id f).node x = s.node x := rfl
@[simp] theorem modPallet_probe (id : Nat) (f : Pallet → Pallet) (x : ProbeId) : (s.modPallet id f).probe x = s.probe x := rfl
@[simp] theorem modPallet_room (id : Nat) (f : Pallet → Pallet) (x : RoomId) : (s.modPallet id f).room x = s.room x := rfl
@[simp] theorem modPallet_load (id : Nat) (f : Pallet → Pallet) (x : RoomId) : (s.modPallet id f).load x = s.load x := rfl
@[simp] theorem modPallet_bay (id : Nat) (f : Pallet → Pallet) (x : BayId) : (s.modPallet id f).bay x = s.bay x := rfl
@[simp] theorem modPallet_coil (id : Nat) (f : Pallet → Pallet) (x : CoilId) : (s.modPallet id f).coil x = s.coil x := rfl
@[simp] theorem modPallet_defrost (id : Nat) (f : Pallet → Pallet) (x : RoomId) : (s.modPallet id f).defrost x = s.defrost x := rfl
@[simp] theorem modPallet_lane (id : Nat) (f : Pallet → Pallet) (x : LaneId) : (s.modPallet id f).lane x = s.lane x := rfl
@[simp] theorem modPallet_truck (id : Nat) (f : Pallet → Pallet) (x : BayId) : (s.modPallet id f).truck x = s.truck x := rfl
@[simp] theorem modPallet_order (id : Nat) (f : Pallet → Pallet) (x : Nat) : (s.modPallet id f).order x = s.order x := rfl

/-! ### setFlag -/

@[simp] theorem setFlag_pending (roles : List Role) (k : Flag) : (setFlag roles k s).pending = s.pending := rfl
@[simp] theorem setFlag_clock (roles : List Role) (k : Flag) : (setFlag roles k s).clock = s.clock := rfl
@[simp] theorem setFlag_hold (roles : List Role) (k : Flag) : (setFlag roles k s).hold = s.hold := rfl
@[simp] theorem setFlag_resetRec (roles : List Role) (k : Flag) : (setFlag roles k s).resetRec = s.resetRec := rfl
@[simp] theorem setFlag_alarms (roles : List Role) (k : Flag) : (setFlag roles k s).alarms = s.alarms := rfl
@[simp] theorem setFlag_overflow (roles : List Role) (k : Flag) : (setFlag roles k s).overflow = s.overflow := rfl
@[simp] theorem setFlag_nodes (roles : List Role) (k : Flag) : (setFlag roles k s).nodes = s.nodes := rfl
@[simp] theorem setFlag_line (roles : List Role) (k : Flag) : (setFlag roles k s).line = s.line := rfl
@[simp] theorem setFlag_probes (roles : List Role) (k : Flag) : (setFlag roles k s).probes = s.probes := rfl
@[simp] theorem setFlag_rooms (roles : List Role) (k : Flag) : (setFlag roles k s).rooms = s.rooms := rfl
@[simp] theorem setFlag_loadTable (roles : List Role) (k : Flag) : (setFlag roles k s).loadTable = s.loadTable := rfl
@[simp] theorem setFlag_loads (roles : List Role) (k : Flag) : (setFlag roles k s).loads = s.loads := rfl
@[simp] theorem setFlag_bays (roles : List Role) (k : Flag) : (setFlag roles k s).bays = s.bays := rfl
@[simp] theorem setFlag_coils (roles : List Role) (k : Flag) : (setFlag roles k s).coils = s.coils := rfl
@[simp] theorem setFlag_defrosts (roles : List Role) (k : Flag) : (setFlag roles k s).defrosts = s.defrosts := rfl
@[simp] theorem setFlag_frostTimer (roles : List Role) (k : Flag) : (setFlag roles k s).frostTimer = s.frostTimer := rfl
@[simp] theorem setFlag_pallets (roles : List Role) (k : Flag) : (setFlag roles k s).pallets = s.pallets := rfl
@[simp] theorem setFlag_lanes (roles : List Role) (k : Flag) : (setFlag roles k s).lanes = s.lanes := rfl
@[simp] theorem setFlag_trucks (roles : List Role) (k : Flag) : (setFlag roles k s).trucks = s.trucks := rfl
@[simp] theorem setFlag_expTimer (roles : List Role) (k : Flag) : (setFlag roles k s).expTimer = s.expTimer := rfl
@[simp] theorem setFlag_orders (roles : List Role) (k : Flag) : (setFlag roles k s).orders = s.orders := rfl
@[simp] theorem setFlag_lastOrder (roles : List Role) (k : Flag) : (setFlag roles k s).lastOrder = s.lastOrder := rfl
@[simp] theorem setFlag_node (roles : List Role) (k : Flag) (x : EntryId) : (setFlag roles k s).node x = s.node x := rfl
@[simp] theorem setFlag_probe (roles : List Role) (k : Flag) (x : ProbeId) : (setFlag roles k s).probe x = s.probe x := rfl
@[simp] theorem setFlag_room (roles : List Role) (k : Flag) (x : RoomId) : (setFlag roles k s).room x = s.room x := rfl
@[simp] theorem setFlag_load (roles : List Role) (k : Flag) (x : RoomId) : (setFlag roles k s).load x = s.load x := rfl
@[simp] theorem setFlag_bay (roles : List Role) (k : Flag) (x : BayId) : (setFlag roles k s).bay x = s.bay x := rfl
@[simp] theorem setFlag_coil (roles : List Role) (k : Flag) (x : CoilId) : (setFlag roles k s).coil x = s.coil x := rfl
@[simp] theorem setFlag_defrost (roles : List Role) (k : Flag) (x : RoomId) : (setFlag roles k s).defrost x = s.defrost x := rfl
@[simp] theorem setFlag_lane (roles : List Role) (k : Flag) (x : LaneId) : (setFlag roles k s).lane x = s.lane x := rfl
@[simp] theorem setFlag_truck (roles : List Role) (k : Flag) (x : BayId) : (setFlag roles k s).truck x = s.truck x := rfl
@[simp] theorem setFlag_pallet (roles : List Role) (k : Flag) (x : Nat) : (setFlag roles k s).pallet x = s.pallet x := rfl
@[simp] theorem setFlag_order (roles : List Role) (k : Flag) (x : Nat) : (setFlag roles k s).order x = s.order x := rfl

/-! ### setFlagAll -/

@[simp] theorem setFlagAll_pending (k : Flag) : (setFlagAll k s).pending = s.pending := rfl
@[simp] theorem setFlagAll_clock (k : Flag) : (setFlagAll k s).clock = s.clock := rfl
@[simp] theorem setFlagAll_hold (k : Flag) : (setFlagAll k s).hold = s.hold := rfl
@[simp] theorem setFlagAll_resetRec (k : Flag) : (setFlagAll k s).resetRec = s.resetRec := rfl
@[simp] theorem setFlagAll_alarms (k : Flag) : (setFlagAll k s).alarms = s.alarms := rfl
@[simp] theorem setFlagAll_overflow (k : Flag) : (setFlagAll k s).overflow = s.overflow := rfl
@[simp] theorem setFlagAll_nodes (k : Flag) : (setFlagAll k s).nodes = s.nodes := rfl
@[simp] theorem setFlagAll_line (k : Flag) : (setFlagAll k s).line = s.line := rfl
@[simp] theorem setFlagAll_probes (k : Flag) : (setFlagAll k s).probes = s.probes := rfl
@[simp] theorem setFlagAll_rooms (k : Flag) : (setFlagAll k s).rooms = s.rooms := rfl
@[simp] theorem setFlagAll_loadTable (k : Flag) : (setFlagAll k s).loadTable = s.loadTable := rfl
@[simp] theorem setFlagAll_loads (k : Flag) : (setFlagAll k s).loads = s.loads := rfl
@[simp] theorem setFlagAll_bays (k : Flag) : (setFlagAll k s).bays = s.bays := rfl
@[simp] theorem setFlagAll_coils (k : Flag) : (setFlagAll k s).coils = s.coils := rfl
@[simp] theorem setFlagAll_defrosts (k : Flag) : (setFlagAll k s).defrosts = s.defrosts := rfl
@[simp] theorem setFlagAll_frostTimer (k : Flag) : (setFlagAll k s).frostTimer = s.frostTimer := rfl
@[simp] theorem setFlagAll_pallets (k : Flag) : (setFlagAll k s).pallets = s.pallets := rfl
@[simp] theorem setFlagAll_lanes (k : Flag) : (setFlagAll k s).lanes = s.lanes := rfl
@[simp] theorem setFlagAll_trucks (k : Flag) : (setFlagAll k s).trucks = s.trucks := rfl
@[simp] theorem setFlagAll_expTimer (k : Flag) : (setFlagAll k s).expTimer = s.expTimer := rfl
@[simp] theorem setFlagAll_orders (k : Flag) : (setFlagAll k s).orders = s.orders := rfl
@[simp] theorem setFlagAll_lastOrder (k : Flag) : (setFlagAll k s).lastOrder = s.lastOrder := rfl
@[simp] theorem setFlagAll_node (k : Flag) (x : EntryId) : (setFlagAll k s).node x = s.node x := rfl
@[simp] theorem setFlagAll_probe (k : Flag) (x : ProbeId) : (setFlagAll k s).probe x = s.probe x := rfl
@[simp] theorem setFlagAll_room (k : Flag) (x : RoomId) : (setFlagAll k s).room x = s.room x := rfl
@[simp] theorem setFlagAll_load (k : Flag) (x : RoomId) : (setFlagAll k s).load x = s.load x := rfl
@[simp] theorem setFlagAll_bay (k : Flag) (x : BayId) : (setFlagAll k s).bay x = s.bay x := rfl
@[simp] theorem setFlagAll_coil (k : Flag) (x : CoilId) : (setFlagAll k s).coil x = s.coil x := rfl
@[simp] theorem setFlagAll_defrost (k : Flag) (x : RoomId) : (setFlagAll k s).defrost x = s.defrost x := rfl
@[simp] theorem setFlagAll_lane (k : Flag) (x : LaneId) : (setFlagAll k s).lane x = s.lane x := rfl
@[simp] theorem setFlagAll_truck (k : Flag) (x : BayId) : (setFlagAll k s).truck x = s.truck x := rfl
@[simp] theorem setFlagAll_pallet (k : Flag) (x : Nat) : (setFlagAll k s).pallet x = s.pallet x := rfl
@[simp] theorem setFlagAll_order (k : Flag) (x : Nat) : (setFlagAll k s).order x = s.order x := rfl

/-! ### The record written -/

@[simp] theorem modNode_node_same (i : EntryId) (f : NodeEntry → NodeEntry) : (s.modNode i f).node i = f (s.node i) := tget_tmod_same _ _ _
theorem modNode_node (i j : EntryId) (f : NodeEntry → NodeEntry) :
    (s.modNode i f).node j = if j = i then f (s.node i) else s.node j := tget_tmod _ _ _ _
theorem modNode_node_ne {i j : EntryId} (f : NodeEntry → NodeEntry) (h : j ≠ i) : (s.modNode i f).node j = s.node j := tget_tmod_ne _ _ h

@[simp] theorem modProbe_probe_same (i : ProbeId) (f : Probe → Probe) : (s.modProbe i f).probe i = f (s.probe i) := tget_tmod_same _ _ _
theorem modProbe_probe (i j : ProbeId) (f : Probe → Probe) :
    (s.modProbe i f).probe j = if j = i then f (s.probe i) else s.probe j := tget_tmod _ _ _ _
theorem modProbe_probe_ne {i j : ProbeId} (f : Probe → Probe) (h : j ≠ i) : (s.modProbe i f).probe j = s.probe j := tget_tmod_ne _ _ h

@[simp] theorem modRoom_room_same (i : RoomId) (f : Room → Room) : (s.modRoom i f).room i = f (s.room i) := tget_tmod_same _ _ _
theorem modRoom_room (i j : RoomId) (f : Room → Room) :
    (s.modRoom i f).room j = if j = i then f (s.room i) else s.room j := tget_tmod _ _ _ _
theorem modRoom_room_ne {i j : RoomId} (f : Room → Room) (h : j ≠ i) : (s.modRoom i f).room j = s.room j := tget_tmod_ne _ _ h

@[simp] theorem modLoad_load_same (i : RoomId) (f : RoomLoad → RoomLoad) : (s.modLoad i f).load i = f (s.load i) := tget_tmod_same _ _ _
theorem modLoad_load (i j : RoomId) (f : RoomLoad → RoomLoad) :
    (s.modLoad i f).load j = if j = i then f (s.load i) else s.load j := tget_tmod _ _ _ _
theorem modLoad_load_ne {i j : RoomId} (f : RoomLoad → RoomLoad) (h : j ≠ i) : (s.modLoad i f).load j = s.load j := tget_tmod_ne _ _ h

@[simp] theorem modBay_bay_same (i : BayId) (f : Bay → Bay) : (s.modBay i f).bay i = f (s.bay i) := tget_tmod_same _ _ _
theorem modBay_bay (i j : BayId) (f : Bay → Bay) :
    (s.modBay i f).bay j = if j = i then f (s.bay i) else s.bay j := tget_tmod _ _ _ _
theorem modBay_bay_ne {i j : BayId} (f : Bay → Bay) (h : j ≠ i) : (s.modBay i f).bay j = s.bay j := tget_tmod_ne _ _ h

@[simp] theorem modCoil_coil_same (i : CoilId) (f : Coil → Coil) : (s.modCoil i f).coil i = f (s.coil i) := tget_tmod_same _ _ _
theorem modCoil_coil (i j : CoilId) (f : Coil → Coil) :
    (s.modCoil i f).coil j = if j = i then f (s.coil i) else s.coil j := tget_tmod _ _ _ _
theorem modCoil_coil_ne {i j : CoilId} (f : Coil → Coil) (h : j ≠ i) : (s.modCoil i f).coil j = s.coil j := tget_tmod_ne _ _ h

@[simp] theorem modDefrost_defrost_same (i : RoomId) (f : RoomDefrost → RoomDefrost) : (s.modDefrost i f).defrost i = f (s.defrost i) := tget_tmod_same _ _ _
theorem modDefrost_defrost (i j : RoomId) (f : RoomDefrost → RoomDefrost) :
    (s.modDefrost i f).defrost j = if j = i then f (s.defrost i) else s.defrost j := tget_tmod _ _ _ _
theorem modDefrost_defrost_ne {i j : RoomId} (f : RoomDefrost → RoomDefrost) (h : j ≠ i) : (s.modDefrost i f).defrost j = s.defrost j := tget_tmod_ne _ _ h

@[simp] theorem modLane_lane_same (i : LaneId) (f : Lane → Lane) : (s.modLane i f).lane i = f (s.lane i) := tget_tmod_same _ _ _
theorem modLane_lane (i j : LaneId) (f : Lane → Lane) :
    (s.modLane i f).lane j = if j = i then f (s.lane i) else s.lane j := tget_tmod _ _ _ _
theorem modLane_lane_ne {i j : LaneId} (f : Lane → Lane) (h : j ≠ i) : (s.modLane i f).lane j = s.lane j := tget_tmod_ne _ _ h

@[simp] theorem modTruck_truck_same (i : BayId) (f : Truck → Truck) : (s.modTruck i f).truck i = f (s.truck i) := tget_tmod_same _ _ _
theorem modTruck_truck (i j : BayId) (f : Truck → Truck) :
    (s.modTruck i f).truck j = if j = i then f (s.truck i) else s.truck j := tget_tmod _ _ _ _
theorem modTruck_truck_ne {i j : BayId} (f : Truck → Truck) (h : j ≠ i) : (s.modTruck i f).truck j = s.truck j := tget_tmod_ne _ _ h

theorem modPort_port (p q : PortId) (f : PortCtx → PortCtx) :
    (s.modPort p f).port q = if q = p then f (s.port p) else s.port q := by cases p <;> cases q <;> rfl

@[simp] theorem modPort_port_same (p : PortId) (f : PortCtx → PortCtx) : (s.modPort p f).port p = f (s.port p) := by
  cases p <;> rfl

theorem modPort_port_ne {p q : PortId} (f : PortCtx → PortCtx) (h : q ≠ p) : (s.modPort p f).port q = s.port q := by
  simp [modPort_port, h]

/-- Two sets of port contexts are equal when the three contexts are. -/
theorem ports_ext {a b : Ports} (h : ∀ p, a.get p = b.get p) : a = b := by
  cases a; cases b
  simpa using ⟨h .A, h .B, h .C⟩

@[simp] theorem ports_get_map (ps : Ports) (f : PortCtx → PortCtx) (p : PortId) : (ps.map f).get p = f (ps.get p) := by
  cases p <;> rfl

/-- Setting a flag for roles changes the ports that take it, and of them the flags only (R144). -/
theorem setFlag_port (roles : List Role) (k : Flag) (p : PortId) :
    (setFlag roles k s).port p = if (s.port p).takesFlag roles then (s.port p).setFlag k else s.port p := by
  cases p <;> rfl

theorem setFlagAll_port (k : Flag) (p : PortId) : (setFlagAll k s).port p = (s.port p).setFlag k := by
  cases p <;> rfl

@[simp] theorem idOf_val {m : Nat} (i : Fin m) : idOf m i.val = some i := by
  simp [idOf]

theorem idOf_eq_some {m n : Nat} {i : Fin m} (h : idOf m n = some i) : i.val = n := by
  unfold idOf at h
  split at h
  · cases h; rfl
  · cases h

theorem idOf_eq_none {m n : Nat} : idOf m n = none ↔ m ≤ n := by
  unfold idOf
  split <;> simp <;> omega

end Sys2Proof.Machine
end

