-- ==== Sys2Proof/Laws/Alarms.lean ====
section
/-! SUPPORT. Raising and clearing an alarm: all that it can do, and all that it leaves alone. -/

namespace Sys2Proof.Machine

/-- The state without the port flags and the alarm list. -/
def State.beyondAlarms (s : State) : State := { s with ports := s.ports.map PortCtx.unsettled, alarms := [], overflow := 0 }

variable (s : State)

@[simp] theorem setFlag_beyondAlarms (roles : List Role) (k : Flag) : (setFlag roles k s).beyondAlarms = s.beyondAlarms := by
  have : (setFlag roles k s).ports.map PortCtx.unsettled = s.ports.map PortCtx.unsettled := by
    apply ports_ext
    intro p
    rw [ports_get_map, ports_get_map]
    have key : ∀ c : PortCtx, (if c.takesFlag roles then c.setFlag k else c).unsettled = c.unsettled := fun c => by
      split <;> rfl
    exact (congrArg PortCtx.unsettled (setFlag_port s roles k p)).trans (key _)
  simp only [State.beyondAlarms, this]
  rfl

/-- All that raising can do (R138, R141): merge into the entry there is; enter a new one at the end, in place of a victim if the list is full;
or count an overflow. -/
theorem raiseHeld_cases (k : AlarmKind) (i : Nat) (v : Option Int) (h : Option Role) :
    let t := raiseHeld k i v h s
    let e := AlarmEntry.new k i s.clock v h
    (∃ x, s.alarm k i = some x ∧ t.overflow = s.overflow ∧
        t.alarms = s.alarms.map fun x => if x.isFor k i then x.merge s.clock v h else x) ∨
      (s.alarm k i = none ∧ s.alarms.length < 64 ∧ t.overflow = s.overflow ∧ t.alarms = s.alarms ++ [e]) ∨
      (∃ w, s.alarm k i = none ∧ 64 ≤ s.alarms.length ∧ alarmVictim k.severity s.alarms = some w ∧ t.overflow = s.overflow ∧
        t.alarms = s.alarms.eraseP (·.isFor w.kind w.subject) ++ [e]) ∨
      (s.alarm k i = none ∧ 64 ≤ s.alarms.length ∧ alarmVictim k.severity s.alarms = none ∧
        t.overflow = satAdd 65535 s.overflow 1 ∧ t.alarms = s.alarms) := by
  simp only [raiseHeld]
  split
  · next x hx => exact .inl ⟨x, hx, rfl, rfl⟩
  · next hn =>
    split
    · next hl => exact .inr (.inl ⟨hn, hl, rfl, rfl⟩)
    · next hl =>
      have hl' : 64 ≤ s.alarms.length := Nat.le_of_not_lt hl
      split
      · next w hw => exact .inr (.inr (.inl ⟨w, hn, hl', hw, rfl, rfl⟩))
      · next hw => exact .inr (.inr (.inr ⟨hn, hl', hw, rfl, rfl⟩))

/-- All that clearing can do (R139): nothing; mark the entry CLEARED_UNACKED; or remove it. -/
theorem clearAlarm_cases (k : AlarmKind) (i : Nat) :
    let t := clearAlarm k i s
    t.overflow = s.overflow ∧
      (t = s ∨ t.alarms = s.alarms.map (fun x => if x.isFor k i then { x with state := .clearedUnacked } else x) ∨
        t.alarms = s.alarms.eraseP (·.isFor k i)) := by
  simp only [clearAlarm]
  split
  · exact ⟨rfl, .inl rfl⟩
  · split
    · exact ⟨rfl, .inr (.inl rfl)⟩
    · exact ⟨rfl, .inr (.inr rfl)⟩
    · exact ⟨rfl, .inl rfl⟩

@[simp] theorem raiseHeld_beyondAlarms (k : AlarmKind) (i : Nat) (v : Option Int) (h : Option Role) :
    (raiseHeld k i v h s).beyondAlarms = s.beyondAlarms := by
  simp only [raiseHeld]
  split
  · rw [setFlag_beyondAlarms]; rfl
  · split
    · rw [setFlag_beyondAlarms]; rfl
    · split
      · rw [setFlag_beyondAlarms, setFlag_beyondAlarms]; rfl
      · rfl

@[simp] theorem raiseAlarm_beyondAlarms (k : AlarmKind) (i : Nat) (v : Option Int) :
    (raiseAlarm k i v s).beyondAlarms = s.beyondAlarms := raiseHeld_beyondAlarms ..

@[simp] theorem clearAlarm_beyondAlarms (k : AlarmKind) (i : Nat) : (clearAlarm k i s).beyondAlarms = s.beyondAlarms := by
  simp only [clearAlarm]
  split
  · rfl
  · split
    · rw [setFlag_beyondAlarms]; rfl
    · rw [setFlag_beyondAlarms]; rfl
    · rfl

/-! ### What each leaves alone, field by field -/

section
variable {s} {t : State} (h : t.beyondAlarms = s.beyondAlarms)
include h

theorem beyondAlarms_pending : t.pending = s.pending := by simpa only [State.beyondAlarms] using congrArg State.pending h
theorem beyondAlarms_clock : t.clock = s.clock := by simpa only [State.beyondAlarms] using congrArg State.clock h
theorem beyondAlarms_hold : t.hold = s.hold := by simpa only [State.beyondAlarms] using congrArg State.hold h
theorem beyondAlarms_resetRec : t.resetRec = s.resetRec := by simpa only [State.beyondAlarms] using congrArg State.resetRec h
theorem beyondAlarms_nodes : t.nodes = s.nodes := by simpa only [State.beyondAlarms] using congrArg State.nodes h
theorem beyondAlarms_line : t.line = s.line := by simpa only [State.beyondAlarms] using congrArg State.line h
theorem beyondAlarms_probes : t.probes = s.probes := by simpa only [State.beyondAlarms] using congrArg State.probes h
theorem beyondAlarms_rooms : t.rooms = s.rooms := by simpa only [State.beyondAlarms] using congrArg State.rooms h
theorem beyondAlarms_loadTable : t.loadTable = s.loadTable := by simpa only [State.beyondAlarms] using congrArg State.loadTable h
theorem beyondAlarms_loads : t.loads = s.loads := by simpa only [State.beyondAlarms] using congrArg State.loads h
theorem beyondAlarms_bays : t.bays = s.bays := by simpa only [State.beyondAlarms] using congrArg State.bays h
theorem beyondAlarms_coils : t.coils = s.coils := by simpa only [State.beyondAlarms] using congrArg State.coils h
theorem beyondAlarms_defrosts : t.defrosts = s.defrosts := by simpa only [State.beyondAlarms] using congrArg State.defrosts h
theorem beyondAlarms_frostTimer : t.frostTimer = s.frostTimer := by simpa only [State.beyondAlarms] using congrArg State.frostTimer h
theorem beyondAlarms_pallets : t.pallets = s.pallets := by simpa only [State.beyondAlarms] using congrArg State.pallets h
theorem beyondAlarms_lanes : t.lanes = s.lanes := by simpa only [State.beyondAlarms] using congrArg State.lanes h
theorem beyondAlarms_trucks : t.trucks = s.trucks := by simpa only [State.beyondAlarms] using congrArg State.trucks h
theorem beyondAlarms_expTimer : t.expTimer = s.expTimer := by simpa only [State.beyondAlarms] using congrArg State.expTimer h
theorem beyondAlarms_orders : t.orders = s.orders := by simpa only [State.beyondAlarms] using congrArg State.orders h
theorem beyondAlarms_lastOrder : t.lastOrder = s.lastOrder := by simpa only [State.beyondAlarms] using congrArg State.lastOrder h
theorem beyondAlarms_node (x : EntryId) : t.node x = s.node x := by simp only [State.node, beyondAlarms_nodes h]
theorem beyondAlarms_probe (x : ProbeId) : t.probe x = s.probe x := by simp only [State.probe, beyondAlarms_probes h]
theorem beyondAlarms_room (x : RoomId) : t.room x = s.room x := by simp only [State.room, beyondAlarms_rooms h]
theorem beyondAlarms_load (x : RoomId) : t.load x = s.load x := by simp only [State.load, beyondAlarms_loads h]
theorem beyondAlarms_bay (x : BayId) : t.bay x = s.bay x := by simp only [State.bay, beyondAlarms_bays h]
theorem beyondAlarms_coil (x : CoilId) : t.coil x = s.coil x := by simp only [State.coil, beyondAlarms_coils h]
theorem beyondAlarms_defrost (x : RoomId) : t.defrost x = s.defrost x := by simp only [State.defrost, beyondAlarms_defrosts h]
theorem beyondAlarms_lane (x : LaneId) : t.lane x = s.lane x := by simp only [State.lane, beyondAlarms_lanes h]
theorem beyondAlarms_truck (x : BayId) : t.truck x = s.truck x := by simp only [State.truck, beyondAlarms_trucks h]
theorem beyondAlarms_pallet (x : Nat) : t.pallet x = s.pallet x := by simp only [State.pallet, beyondAlarms_pallets h]
theorem beyondAlarms_order (x : Nat) : t.order x = s.order x := by simp only [State.order, beyondAlarms_orders h]

end

@[simp] theorem raiseHeld_pending (k : AlarmKind) (i : Nat) (v : Option Int) (h : Option Role) : (raiseHeld k i v h s).pending = s.pending :=
  beyondAlarms_pending (raiseHeld_beyondAlarms s k i v h)
@[simp] theorem raiseHeld_clock (k : AlarmKind) (i : Nat) (v : Option Int) (h : Option Role) : (raiseHeld k i v h s).clock = s.clock :=
  beyondAlarms_clock (raiseHeld_beyondAlarms s k i v h)
@[simp] theorem raiseHeld_hold (k : AlarmKind) (i : Nat) (v : Option Int) (h : Option Role) : (raiseHeld k i v h s).hold = s.hold :=
  beyondAlarms_hold (raiseHeld_beyondAlarms s k i v h)
@[simp] theorem raiseHeld_resetRec (k : AlarmKind) (i : Nat) (v : Option Int) (h : Option Role) : (raiseHeld k i v h s).resetRec = s.resetRec :=
  beyondAlarms_resetRec (raiseHeld_beyondAlarms s k i v h)
@[simp] theorem raiseHeld_nodes (k : AlarmKind) (i : Nat) (v : Option Int) (h : Option Role) : (raiseHeld k i v h s).nodes = s.nodes :=
  beyondAlarms_nodes (raiseHeld_beyondAlarms s k i v h)
@[simp] theorem raiseHeld_line (k : AlarmKind) (i : Nat) (v : Option Int) (h : Option Role) : (raiseHeld k i v h s).line = s.line :=
  beyondAlarms_line (raiseHeld_beyondAlarms s k i v h)
@[simp] theorem raiseHeld_probes (k : AlarmKind) (i : Nat) (v : Option Int) (h : Option Role) : (raiseHeld k i v h s).probes = s.probes :=
  beyondAlarms_probes (raiseHeld_beyondAlarms s k i v h)
@[simp] theorem raiseHeld_rooms (k : AlarmKind) (i : Nat) (v : Option Int) (h : Option Role) : (raiseHeld k i v h s).rooms = s.rooms :=
  beyondAlarms_rooms (raiseHeld_beyondAlarms s k i v h)
@[simp] theorem raiseHeld_loadTable (k : AlarmKind) (i : Nat) (v : Option Int) (h : Option Role) : (raiseHeld k i v h s).loadTable = s.loadTable :=
  beyondAlarms_loadTable (raiseHeld_beyondAlarms s k i v h)
@[simp] theorem raiseHeld_loads (k : AlarmKind) (i : Nat) (v : Option Int) (h : Option Role) : (raiseHeld k i v h s).loads = s.loads :=
  beyondAlarms_loads (raiseHeld_beyondAlarms s k i v h)
@[simp] theorem raiseHeld_bays (k : AlarmKind) (i : Nat) (v : Option Int) (h : Option Role) : (raiseHeld k i v h s).bays = s.bays :=
  beyondAlarms_bays (raiseHeld_beyondAlarms s k i v h)
@[simp] theorem raiseHeld_coils (k : AlarmKind) (i : Nat) (v : Option Int) (h : Option Role) : (raiseHeld k i v h s).coils = s.coils :=
  beyondAlarms_coils (raiseHeld_beyondAlarms s k i v h)
@[simp] theorem raiseHeld_defrosts (k : AlarmKind) (i : Nat) (v : Option Int) (h : Option Role) : (raiseHeld k i v h s).defrosts = s.defrosts :=
  beyondAlarms_defrosts (raiseHeld_beyondAlarms s k i v h)
@[simp] theorem raiseHeld_frostTimer (k : AlarmKind) (i : Nat) (v : Option Int) (h : Option Role) : (raiseHeld k i v h s).frostTimer = s.frostTimer :=
  beyondAlarms_frostTimer (raiseHeld_beyondAlarms s k i v h)
@[simp] theorem raiseHeld_pallets (k : AlarmKind) (i : Nat) (v : Option Int) (h : Option Role) : (raiseHeld k i v h s).pallets = s.pallets :=
  beyondAlarms_pallets (raiseHeld_beyondAlarms s k i v h)
@[simp] theorem raiseHeld_lanes (k : AlarmKind) (i : Nat) (v : Option Int) (h : Option Role) : (raiseHeld k i v h s).lanes = s.lanes :=
  beyondAlarms_lanes (raiseHeld_beyondAlarms s k i v h)
@[simp] theorem raiseHeld_trucks (k : AlarmKind) (i : Nat) (v : Option Int) (h : Option Role) : (raiseHeld k i v h s).trucks = s.trucks :=
  beyondAlarms_trucks (raiseHeld_beyondAlarms s k i v h)
@[simp] theorem raiseHeld_expTimer (k : AlarmKind) (i : Nat) (v : Option Int) (h : Option Role) : (raiseHeld k i v h s).expTimer = s.expTimer :=
  beyondAlarms_expTimer (raiseHeld_beyondAlarms s k i v h)
@[simp] theorem raiseHeld_orders (k : AlarmKind) (i : Nat) (v : Option Int) (h : Option Role) : (raiseHeld k i v h s).orders = s.orders :=
  beyondAlarms_orders (raiseHeld_beyondAlarms s k i v h)
@[simp] theorem raiseHeld_lastOrder (k : AlarmKind) (i : Nat) (v : Option Int) (h : Option Role) : (raiseHeld k i v h s).lastOrder = s.lastOrder :=
  beyondAlarms_lastOrder (raiseHeld_beyondAlarms s k i v h)
@[simp] theorem raiseHeld_node (k : AlarmKind) (i : Nat) (v : Option Int) (h : Option Role) (x : EntryId) : (raiseHeld k i v h s).node x = s.node x :=
  beyondAlarms_node (raiseHeld_beyondAlarms s k i v h) x
@[simp] theorem raiseHeld_probe (k : AlarmKind) (i : Nat) (v : Option Int) (h : Option Role) (x : ProbeId) : (raiseHeld k i v h s).probe x = s.probe x :=
  beyondAlarms_probe (raiseHeld_beyondAlarms s k i v h) x
@[simp] theorem raiseHeld_room (k : AlarmKind) (i : Nat) (v : Option Int) (h : Option Role) (x : RoomId) : (raiseHeld k i v h s).room x = s.room x :=
  beyondAlarms_room (raiseHeld_beyondAlarms s k i v h) x
@[simp] theorem raiseHeld_load (k : AlarmKind) (i : Nat) (v : Option Int) (h : Option Role) (x : RoomId) : (raiseHeld k i v h s).load x = s.load x :=
  beyondAlarms_load (raiseHeld_beyondAlarms s k i v h) x
@[simp] theorem raiseHeld_bay (k : AlarmKind) (i : Nat) (v : Option Int) (h : Option Role) (x : BayId) : (raiseHeld k i v h s).bay x = s.bay x :=
  beyondAlarms_bay (raiseHeld_beyondAlarms s k i v h) x
@[simp] theorem raiseHeld_coil (k : AlarmKind) (i : Nat) (v : Option Int) (h : Option Role) (x : CoilId) : (raiseHeld k i v h s).coil x = s.coil x :=
  beyondAlarms_coil (raiseHeld_beyondAlarms s k i v h) x
@[simp] theorem raiseHeld_defrost (k : AlarmKind) (i : Nat) (v : Option Int) (h : Option Role) (x : RoomId) : (raiseHeld k i v h s).defrost x = s.defrost x :=
  beyondAlarms_defrost (raiseHeld_beyondAlarms s k i v h) x
@[simp] theorem raiseHeld_lane (k : AlarmKind) (i : Nat) (v : Option Int) (h : Option Role) (x : LaneId) : (raiseHeld k i v h s).lane x = s.lane x :=
  beyondAlarms_lane (raiseHeld_beyondAlarms s k i v h) x
@[simp] theorem raiseHeld_truck (k : AlarmKind) (i : Nat) (v : Option Int) (h : Option Role) (x : BayId) : (raiseHeld k i v h s).truck x = s.truck x :=
  beyondAlarms_truck (raiseHeld_beyondAlarms s k i v h) x
@[simp] theorem raiseHeld_pallet (k : AlarmKind) (i : Nat) (v : Option Int) (h : Option Role) (x : Nat) : (raiseHeld k i v h s).pallet x = s.pallet x :=
  beyondAlarms_pallet (raiseHeld_beyondAlarms s k i v h) x
@[simp] theorem raiseHeld_order (k : AlarmKind) (i : Nat) (v : Option Int) (h : Option Role) (x : Nat) : (raiseHeld k i v h s).order x = s.order x :=
  beyondAlarms_order (raiseHeld_beyondAlarms s k i v h) x

@[simp] theorem raiseAlarm_pending (k : AlarmKind) (i : Nat) (v : Option Int) : (raiseAlarm k i v s).pending = s.pending :=
  beyondAlarms_pending (raiseAlarm_beyondAlarms s k i v)
@[simp] theorem raiseAlarm_clock (k : AlarmKind) (i : Nat) (v : Option Int) : (raiseAlarm k i v s).clock = s.clock :=
  beyondAlarms_clock (raiseAlarm_beyondAlarms s k i v)
@[simp] theorem raiseAlarm_hold (k : AlarmKind) (i : Nat) (v : Option Int) : (raiseAlarm k i v s).hold = s.hold :=
  beyondAlarms_hold (raiseAlarm_beyondAlarms s k i v)
@[simp] theorem raiseAlarm_resetRec (k : AlarmKind) (i : Nat) (v : Option Int) : (raiseAlarm k i v s).resetRec = s.resetRec :=
  beyondAlarms_resetRec (raiseAlarm_beyondAlarms s k i v)
@[simp] theorem raiseAlarm_nodes (k : AlarmKind) (i : Nat) (v : Option Int) : (raiseAlarm k i v s).nodes = s.nodes :=
  beyondAlarms_nodes (raiseAlarm_beyondAlarms s k i v)
@[simp] theorem raiseAlarm_line (k : AlarmKind) (i : Nat) (v : Option Int) : (raiseAlarm k i v s).line = s.line :=
  beyondAlarms_line (raiseAlarm_beyondAlarms s k i v)
@[simp] theorem raiseAlarm_probes (k : AlarmKind) (i : Nat) (v : Option Int) : (raiseAlarm k i v s).probes = s.probes :=
  beyondAlarms_probes (raiseAlarm_beyondAlarms s k i v)
@[simp] theorem raiseAlarm_rooms (k : AlarmKind) (i : Nat) (v : Option Int) : (raiseAlarm k i v s).rooms = s.rooms :=
  beyondAlarms_rooms (raiseAlarm_beyondAlarms s k i v)
@[simp] theorem raiseAlarm_loadTable (k : AlarmKind) (i : Nat) (v : Option Int) : (raiseAlarm k i v s).loadTable = s.loadTable :=
  beyondAlarms_loadTable (raiseAlarm_beyondAlarms s k i v)
@[simp] theorem raiseAlarm_loads (k : AlarmKind) (i : Nat) (v : Option Int) : (raiseAlarm k i v s).loads = s.loads :=
  beyondAlarms_loads (raiseAlarm_beyondAlarms s k i v)
@[simp] theorem raiseAlarm_bays (k : AlarmKind) (i : Nat) (v : Option Int) : (raiseAlarm k i v s).bays = s.bays :=
  beyondAlarms_bays (raiseAlarm_beyondAlarms s k i v)
@[simp] theorem raiseAlarm_coils (k : AlarmKind) (i : Nat) (v : Option Int) : (raiseAlarm k i v s).coils = s.coils :=
  beyondAlarms_coils (raiseAlarm_beyondAlarms s k i v)
@[simp] theorem raiseAlarm_defrosts (k : AlarmKind) (i : Nat) (v : Option Int) : (raiseAlarm k i v s).defrosts = s.defrosts :=
  beyondAlarms_defrosts (raiseAlarm_beyondAlarms s k i v)
@[simp] theorem raiseAlarm_frostTimer (k : AlarmKind) (i : Nat) (v : Option Int) : (raiseAlarm k i v s).frostTimer = s.frostTimer :=
  beyondAlarms_frostTimer (raiseAlarm_beyondAlarms s k i v)
@[simp] theorem raiseAlarm_pallets (k : AlarmKind) (i : Nat) (v : Option Int) : (raiseAlarm k i v s).pallets = s.pallets :=
  beyondAlarms_pallets (raiseAlarm_beyondAlarms s k i v)
@[simp] theorem raiseAlarm_lanes (k : AlarmKind) (i : Nat) (v : Option Int) : (raiseAlarm k i v s).lanes = s.lanes :=
  beyondAlarms_lanes (raiseAlarm_beyondAlarms s k i v)
@[simp] theorem raiseAlarm_trucks (k : AlarmKind) (i : Nat) (v : Option Int) : (raiseAlarm k i v s).trucks = s.trucks :=
  beyondAlarms_trucks (raiseAlarm_beyondAlarms s k i v)
@[simp] theorem raiseAlarm_expTimer (k : AlarmKind) (i : Nat) (v : Option Int) : (raiseAlarm k i v s).expTimer = s.expTimer :=
  beyondAlarms_expTimer (raiseAlarm_beyondAlarms s k i v)
@[simp] theorem raiseAlarm_orders (k : AlarmKind) (i : Nat) (v : Option Int) : (raiseAlarm k i v s).orders = s.orders :=
  beyondAlarms_orders (raiseAlarm_beyondAlarms s k i v)
@[simp] theorem raiseAlarm_lastOrder (k : AlarmKind) (i : Nat) (v : Option Int) : (raiseAlarm k i v s).lastOrder = s.lastOrder :=
  beyondAlarms_lastOrder (raiseAlarm_beyondAlarms s k i v)
@[simp] theorem raiseAlarm_node (k : AlarmKind) (i : Nat) (v : Option Int) (x : EntryId) : (raiseAlarm k i v s).node x = s.node x :=
  beyondAlarms_node (raiseAlarm_beyondAlarms s k i v) x
@[simp] theorem raiseAlarm_probe (k : AlarmKind) (i : Nat) (v : Option Int) (x : ProbeId) : (raiseAlarm k i v s).probe x = s.probe x :=
  beyondAlarms_probe (raiseAlarm_beyondAlarms s k i v) x
@[simp] theorem raiseAlarm_room (k : AlarmKind) (i : Nat) (v : Option Int) (x : RoomId) : (raiseAlarm k i v s).room x = s.room x :=
  beyondAlarms_room (raiseAlarm_beyondAlarms s k i v) x
@[simp] theorem raiseAlarm_load (k : AlarmKind) (i : Nat) (v : Option Int) (x : RoomId) : (raiseAlarm k i v s).load x = s.load x :=
  beyondAlarms_load (raiseAlarm_beyondAlarms s k i v) x
@[simp] theorem raiseAlarm_bay (k : AlarmKind) (i : Nat) (v : Option Int) (x : BayId) : (raiseAlarm k i v s).bay x = s.bay x :=
  beyondAlarms_bay (raiseAlarm_beyondAlarms s k i v) x
@[simp] theorem raiseAlarm_coil (k : AlarmKind) (i : Nat) (v : Option Int) (x : CoilId) : (raiseAlarm k i v s).coil x = s.coil x :=
  beyondAlarms_coil (raiseAlarm_beyondAlarms s k i v) x
@[simp] theorem raiseAlarm_defrost (k : AlarmKind) (i : Nat) (v : Option Int) (x : RoomId) : (raiseAlarm k i v s).defrost x = s.defrost x :=
  beyondAlarms_defrost (raiseAlarm_beyondAlarms s k i v) x
@[simp] theorem raiseAlarm_lane (k : AlarmKind) (i : Nat) (v : Option Int) (x : LaneId) : (raiseAlarm k i v s).lane x = s.lane x :=
  beyondAlarms_lane (raiseAlarm_beyondAlarms s k i v) x
@[simp] theorem raiseAlarm_truck (k : AlarmKind) (i : Nat) (v : Option Int) (x : BayId) : (raiseAlarm k i v s).truck x = s.truck x :=
  beyondAlarms_truck (raiseAlarm_beyondAlarms s k i v) x
@[simp] theorem raiseAlarm_pallet (k : AlarmKind) (i : Nat) (v : Option Int) (x : Nat) : (raiseAlarm k i v s).pallet x = s.pallet x :=
  beyondAlarms_pallet (raiseAlarm_beyondAlarms s k i v) x
@[simp] theorem raiseAlarm_order (k : AlarmKind) (i : Nat) (v : Option Int) (x : Nat) : (raiseAlarm k i v s).order x = s.order x :=
  beyondAlarms_order (raiseAlarm_beyondAlarms s k i v) x

@[simp] theorem clearAlarm_pending (k : AlarmKind) (i : Nat) : (clearAlarm k i s).pending = s.pending :=
  beyondAlarms_pending (clearAlarm_beyondAlarms s k i)
@[simp] theorem clearAlarm_clock (k : AlarmKind) (i : Nat) : (clearAlarm k i s).clock = s.clock :=
  beyondAlarms_clock (clearAlarm_beyondAlarms s k i)
@[simp] theorem clearAlarm_hold (k : AlarmKind) (i : Nat) : (clearAlarm k i s).hold = s.hold :=
  beyondAlarms_hold (clearAlarm_beyondAlarms s k i)
@[simp] theorem clearAlarm_resetRec (k : AlarmKind) (i : Nat) : (clearAlarm k i s).resetRec = s.resetRec :=
  beyondAlarms_resetRec (clearAlarm_beyondAlarms s k i)
@[simp] theorem clearAlarm_nodes (k : AlarmKind) (i : Nat) : (clearAlarm k i s).nodes = s.nodes :=
  beyondAlarms_nodes (clearAlarm_beyondAlarms s k i)
@[simp] theorem clearAlarm_line (k : AlarmKind) (i : Nat) : (clearAlarm k i s).line = s.line :=
  beyondAlarms_line (clearAlarm_beyondAlarms s k i)
@[simp] theorem clearAlarm_probes (k : AlarmKind) (i : Nat) : (clearAlarm k i s).probes = s.probes :=
  beyondAlarms_probes (clearAlarm_beyondAlarms s k i)
@[simp] theorem clearAlarm_rooms (k : AlarmKind) (i : Nat) : (clearAlarm k i s).rooms = s.rooms :=
  beyondAlarms_rooms (clearAlarm_beyondAlarms s k i)
@[simp] theorem clearAlarm_loadTable (k : AlarmKind) (i : Nat) : (clearAlarm k i s).loadTable = s.loadTable :=
  beyondAlarms_loadTable (clearAlarm_beyondAlarms s k i)
@[simp] theorem clearAlarm_loads (k : AlarmKind) (i : Nat) : (clearAlarm k i s).loads = s.loads :=
  beyondAlarms_loads (clearAlarm_beyondAlarms s k i)
@[simp] theorem clearAlarm_bays (k : AlarmKind) (i : Nat) : (clearAlarm k i s).bays = s.bays :=
  beyondAlarms_bays (clearAlarm_beyondAlarms s k i)
@[simp] theorem clearAlarm_coils (k : AlarmKind) (i : Nat) : (clearAlarm k i s).coils = s.coils :=
  beyondAlarms_coils (clearAlarm_beyondAlarms s k i)
@[simp] theorem clearAlarm_defrosts (k : AlarmKind) (i : Nat) : (clearAlarm k i s).defrosts = s.defrosts :=
  beyondAlarms_defrosts (clearAlarm_beyondAlarms s k i)
@[simp] theorem clearAlarm_frostTimer (k : AlarmKind) (i : Nat) : (clearAlarm k i s).frostTimer = s.frostTimer :=
  beyondAlarms_frostTimer (clearAlarm_beyondAlarms s k i)
@[simp] theorem clearAlarm_pallets (k : AlarmKind) (i : Nat) : (clearAlarm k i s).pallets = s.pallets :=
  beyondAlarms_pallets (clearAlarm_beyondAlarms s k i)
@[simp] theorem clearAlarm_lanes (k : AlarmKind) (i : Nat) : (clearAlarm k i s).lanes = s.lanes :=
  beyondAlarms_lanes (clearAlarm_beyondAlarms s k i)
@[simp] theorem clearAlarm_trucks (k : AlarmKind) (i : Nat) : (clearAlarm k i s).trucks = s.trucks :=
  beyondAlarms_trucks (clearAlarm_beyondAlarms s k i)
@[simp] theorem clearAlarm_expTimer (k : AlarmKind) (i : Nat) : (clearAlarm k i s).expTimer = s.expTimer :=
  beyondAlarms_expTimer (clearAlarm_beyondAlarms s k i)
@[simp] theorem clearAlarm_orders (k : AlarmKind) (i : Nat) : (clearAlarm k i s).orders = s.orders :=
  beyondAlarms_orders (clearAlarm_beyondAlarms s k i)
@[simp] theorem clearAlarm_lastOrder (k : AlarmKind) (i : Nat) : (clearAlarm k i s).lastOrder = s.lastOrder :=
  beyondAlarms_lastOrder (clearAlarm_beyondAlarms s k i)
@[simp] theorem clearAlarm_node (k : AlarmKind) (i : Nat) (x : EntryId) : (clearAlarm k i s).node x = s.node x :=
  beyondAlarms_node (clearAlarm_beyondAlarms s k i) x
@[simp] theorem clearAlarm_probe (k : AlarmKind) (i : Nat) (x : ProbeId) : (clearAlarm k i s).probe x = s.probe x :=
  beyondAlarms_probe (clearAlarm_beyondAlarms s k i) x
@[simp] theorem clearAlarm_room (k : AlarmKind) (i : Nat) (x : RoomId) : (clearAlarm k i s).room x = s.room x :=
  beyondAlarms_room (clearAlarm_beyondAlarms s k i) x
@[simp] theorem clearAlarm_load (k : AlarmKind) (i : Nat) (x : RoomId) : (clearAlarm k i s).load x = s.load x :=
  beyondAlarms_load (clearAlarm_beyondAlarms s k i) x
@[simp] theorem clearAlarm_bay (k : AlarmKind) (i : Nat) (x : BayId) : (clearAlarm k i s).bay x = s.bay x :=
  beyondAlarms_bay (clearAlarm_beyondAlarms s k i) x
@[simp] theorem clearAlarm_coil (k : AlarmKind) (i : Nat) (x : CoilId) : (clearAlarm k i s).coil x = s.coil x :=
  beyondAlarms_coil (clearAlarm_beyondAlarms s k i) x
@[simp] theorem clearAlarm_defrost (k : AlarmKind) (i : Nat) (x : RoomId) : (clearAlarm k i s).defrost x = s.defrost x :=
  beyondAlarms_defrost (clearAlarm_beyondAlarms s k i) x
@[simp] theorem clearAlarm_lane (k : AlarmKind) (i : Nat) (x : LaneId) : (clearAlarm k i s).lane x = s.lane x :=
  beyondAlarms_lane (clearAlarm_beyondAlarms s k i) x
@[simp] theorem clearAlarm_truck (k : AlarmKind) (i : Nat) (x : BayId) : (clearAlarm k i s).truck x = s.truck x :=
  beyondAlarms_truck (clearAlarm_beyondAlarms s k i) x
@[simp] theorem clearAlarm_pallet (k : AlarmKind) (i : Nat) (x : Nat) : (clearAlarm k i s).pallet x = s.pallet x :=
  beyondAlarms_pallet (clearAlarm_beyondAlarms s k i) x
@[simp] theorem clearAlarm_order (k : AlarmKind) (i : Nat) (x : Nat) : (clearAlarm k i s).order x = s.order x :=
  beyondAlarms_order (clearAlarm_beyondAlarms s k i) x

end Sys2Proof.Machine
end

