-- ==== Sys2Proof/Laws/Line.lean ====
section
/-! SUPPORT. What the serial form of a frame is: its length, and how it grows with the frame (R152). -/

namespace Sys2Proof.Machine

@[simp] theorem serialByte_length (x : Byte) : (serialByte x).length = 10 := rfl

@[simp] theorem serialBits_nil : serialBits [] = [] := rfl

@[simp] theorem serialBits_cons (x : Byte) (l : List Byte) : serialBits (x :: l) = serialByte x ++ serialBits l := rfl

@[simp] theorem serialBits_append (k l : List Byte) : serialBits (k ++ l) = serialBits k ++ serialBits l :=
  List.flatMap_append

@[simp] theorem serialBits_length (l : List Byte) : (serialBits l).length = 10 * l.length := by
  induction l with
  | nil => rfl
  | cons x l ih => simp [ih]; omega

end Sys2Proof.Machine
end

