-- ==== Sys2Proof/Laws/Unsettled.lean ====
section
/-! SUPPORT. The notices and the settling of an event leave `State.unsettled` as it was: one lemma for each shared operation of the alarm
list, the order unit, the bay controller, the defrost controller and the serving of a queue. Then what the terms of `Safety` say in the machine's. -/

namespace Sys2Proof.Machine

/-! ### Tables and lists -/

theorem tget_map {α β : Type} {n : Nat} (t : Tab α n) (g : α → β) (i : Fin n) : tget (t.map g) i = g (tget t i) := by
  simp [tget]

theorem tmod_map {α β : Type} {n : Nat} (t : Tab α n) (i : Fin n) (f : α → α) (g : α → β)
    (h : g (f (tget t i)) = g (tget t i)) : (tmod t i f).map g = t.map g := by
  apply tab_ext
  intro j
  rw [tget_map, tget_map, tget_tmod]
  split
  · next hj => subst hj; exact h
  · rfl

theorem replaceFirst_map {α β : Type} (p : α → Bool) (a : α) (g : α → β) (l : List α)
    (h : ∀ b, l.find? p = some b → g a = g b) : (replaceFirst p a l).map g = l.map g := by
  induction l with
  | nil => rfl
  | cons b bs ih =>
    simp only [replaceFirst]
    by_cases hb : p b
    · simp [hb, h b (by simp [hb])]
    · simp only [hb, Bool.false_eq_true, if_false, List.map_cons, List.cons.injEq, true_and]
      exact ih fun c hc => h c (by simpa [hb] using hc)

/-- A walk over a list keeps what each of its steps keeps. -/
theorem foldl_keeps {α σ β : Type} (g : σ → β) (f : σ → α → σ) (h : ∀ s a, g (f s a) = g s) (l : List α) (s : σ) :
    g (l.foldl f s) = g s := by
  induction l generalizing s with
  | nil => rfl
  | cons a l ih => rw [List.foldl_cons, ih, h]

/-! ### Updates of a record -/

section
variable {s : State}

theorem modRoom_unsettled (r : RoomId) (f : Room → Room) (h : (f (s.room r)).unsettled = (s.room r).unsettled) :
    (s.modRoom r f).unsettled = s.unsettled := by
  simp only [State.unsettled, State.modRoom, tmod_map _ _ _ _ h]

theorem modLoad_unsettled (r : RoomId) (f : RoomLoad → RoomLoad) (h : (f (s.load r)).unsettled = (s.load r).unsettled) :
    (s.modLoad r f).unsettled = s.unsettled := by
  simp only [State.unsettled, State.modLoad, tmod_map _ _ _ _ h]

theorem modBay_unsettled (b : BayId) (f : Bay → Bay) (h : (f (s.bay b)).unsettled = (s.bay b).unsettled) :
    (s.modBay b f).unsettled = s.unsettled := by
  simp only [State.unsettled, State.modBay, tmod_map _ _ _ _ h]

theorem modCoil_unsettled (c : CoilId) (f : Coil → Coil) (h : (f (s.coil c)).unsettled = (s.coil c).unsettled) :
    (s.modCoil c f).unsettled = s.unsettled := by
  simp only [State.unsettled, State.modCoil, tmod_map _ _ _ _ h]

theorem modDefrost_unsettled (r : RoomId) (f : RoomDefrost → RoomDefrost)
    (h : (f (s.defrost r)).unsettled = (s.defrost r).unsettled) : (s.modDefrost r f).unsettled = s.unsettled := by
  simp only [State.unsettled, State.modDefrost, tmod_map _ _ _ _ h]

end

variable (s : State)

/-! ### Flags and alarms -/

@[simp] theorem setFlag_unsettled (roles : List Role) (k : Flag) : (setFlag roles k s).unsettled = s.unsettled := by
  have : (setFlag roles k s).ports.map PortCtx.unsettled = s.ports.map PortCtx.unsettled := by
    apply ports_ext
    intro p
    rw [ports_get_map, ports_get_map]
    have key : ∀ c : PortCtx, (if c.takesFlag roles then c.setFlag k else c).unsettled = c.unsettled := fun c => by
      split <;> rfl
    exact (congrArg PortCtx.unsettled (setFlag_port s roles k p)).trans (key _)
  simp only [State.unsettled, this]
  rfl

@[simp] theorem setFlagAll_unsettled (k : Flag) : (setFlagAll k s).unsettled = s.unsettled := rfl

@[simp] theorem raiseHeld_unsettled (k : AlarmKind) (i : Nat) (v : Option Int) (h : Option Role) :
    (raiseHeld k i v h s).unsettled = s.unsettled := by
  simp only [raiseHeld]
  split
  · rw [setFlag_unsettled]; rfl
  · split
    · rw [setFlag_unsettled]; rfl
    · split
      · rw [setFlag_unsettled, setFlag_unsettled]; rfl
      · rw [setFlagAll_unsettled]; rfl

@[simp] theorem raiseAlarm_unsettled (k : AlarmKind) (i : Nat) (v : Option Int) :
    (raiseAlarm k i v s).unsettled = s.unsettled := raiseHeld_unsettled ..

@[simp] theorem clearAlarm_unsettled (k : AlarmKind) (i : Nat) : (clearAlarm k i s).unsettled = s.unsettled := by
  simp only [clearAlarm]
  split
  · rfl
  · split
    · rw [setFlag_unsettled]; rfl
    · rw [setFlag_unsettled]; rfl
    · rfl

/-! ### Orders -/

@[simp] theorem unlinkOrder_unsettled (n : Nat) : (unlinkOrder n s).unsettled = s.unsettled :=
  foldl_keeps State.unsettled _ (fun _ b => modBay_unsettled b _ rfl) _ _

@[simp] theorem flagOrder_unsettled (old new : Order) : (flagOrder old new s).unsettled = s.unsettled := by
  simp only [flagOrder]
  split
  · simp
  · rfl

/-- Replacing an order by a form that differs in what `Order.unsettled` leaves out, and has not ended. -/
theorem putOrder_unsettled {old new : Order} {n : Nat} (ho : s.order n = some old) (hu : new.unsettled = old.unsettled)
    (hs : new.state.unfinished) : (putOrder old new s).unsettled = s.unsettled := by
  have hn : new.num = n := by
    have h1 : old.num = n := by simpa [State.order] using List.find?_some ho
    have h2 : new.num = old.num := show new.unsettled.num = old.unsettled.num from hu ▸ rfl
    rw [h2, h1]
  have hl : ({ s with orders := replaceFirst (·.num == new.num) new s.orders } : State).unsettled = s.unsettled := by
    have : (replaceFirst (·.num == new.num) new s.orders).map Order.unsettled = s.orders.map Order.unsettled := by
      apply replaceFirst_map
      intro b hb
      rw [hn] at hb
      rw [State.order] at ho
      rw [ho] at hb
      cases hb
      exact hu
    simp only [State.unsettled, this]
  simp only [putOrder, hs, if_true, settleOrder]
  split <;> simp_all [flagOrder_unsettled, OrderState.unfinished]

theorem evaluated_unsettled (a : OrderState) (o : Order) : (s.evaluated a o).unsettled = o.unsettled := by
  simp only [State.evaluated]
  split <;> rfl

theorem evaluated_unfinished (a : OrderState) (ha : a.unfinished) (o : Order) : (s.evaluated a o).state.unfinished := by
  simp only [State.evaluated]
  split <;> first | rfl | exact ha

@[simp] theorem evaluateOnNotice_unsettled (n : Nat) : (evaluateOnNotice n s).unsettled = s.unsettled := by
  simp only [evaluateOnNotice]
  split
  · next o ho =>
    split
    · exact putOrder_unsettled s ho (evaluated_unsettled ..) (evaluated_unfinished _ _ (by split <;> rfl) _)
    · rfl
  · rfl

@[simp] theorem noticeOrders_unsettled (f : Order → Bool) : (noticeOrders f s).unsettled = s.unsettled :=
  foldl_keeps State.unsettled _ (fun s _ => evaluateOnNotice_unsettled s _) _ _

@[simp] theorem noticeLists_unsettled (eps : List Endpoint) : (noticeLists eps s).unsettled = s.unsettled :=
  noticeOrders_unsettled ..

@[simp] theorem takeOutcome_unsettled (out : NamedOutcome) (n : Nat) : (takeOutcome out n s).unsettled = s.unsettled := by
  simp only [takeOutcome]
  split
  · next o ho =>
    split
    · split <;> exact putOrder_unsettled s ho rfl rfl
    · rfl
  · rfl

@[simp] theorem carryingNotice_unsettled (b : BayId) (n : Nat) : (carryingNotice b n s).unsettled = s.unsettled := by
  simp only [carryingNotice]
  split
  · next o ho =>
    split
    · next h => exact putOrder_unsettled s ho rfl (by simp [h.1, OrderState.unfinished])
    · rfl
  · rfl

@[simp] theorem noticeBay_unsettled (b : BayId) (named : List Nat) (out : NamedOutcome) :
    (noticeBay b named out s).unsettled = s.unsettled := by
  simp only [noticeBay]
  rw [foldl_keeps State.unsettled _ (by simp), foldl_keeps State.unsettled _ (by simp)]

@[simp] theorem noticeMarked_unsettled (ids : List Nat) : (noticeMarked ids s).unsettled = s.unsettled := by
  simp only [noticeMarked, noticeOrders_unsettled]
  simp only [State.unsettled, List.map_map]
  congr 1
  apply List.map_congr_left
  intro o _
  simp only [Function.comp]
  split <;> rfl

/-! ### Bays -/

@[simp] theorem reportBay_unsettled (b : BayId) (named : List Nat) (out : NamedOutcome) :
    (reportBay b named out s).unsettled = s.unsettled := by simp [reportBay]

@[simp] theorem refreshLoad_unsettled (r : RoomId) : (refreshLoad r s).unsettled = s.unsettled := modLoad_unsettled r _ rfl

@[simp] theorem grantBay_unsettled (b : BayId) : (grantBay b s).unsettled = s.unsettled := by
  simp only [grantBay, reportBay_unsettled]
  exact modBay_unsettled b _ rfl

@[simp] theorem lapseGrant_unsettled (b : BayId) : (lapseGrant b s).unsettled = s.unsettled := by
  simp only [lapseGrant, reportBay_unsettled]
  exact modBay_unsettled b _ rfl

@[simp] theorem becomeOverdue_unsettled (b : BayId) : (becomeOverdue b s).unsettled = s.unsettled := by
  simp only [becomeOverdue, reportBay_unsettled, raiseAlarm_unsettled]
  exact modBay_unsettled b _ rfl

@[simp] theorem returnActive_unsettled (b : BayId) : (returnActive b s).unsettled = s.unsettled := by
  simp only [returnActive, reportBay_unsettled, clearAlarm_unsettled]
  exact modBay_unsettled b _ rfl

@[simp] theorem recompute_unsettled (b : BayId) : (recompute b s).unsettled = s.unsettled := by
  have h : (s.modBay b fun x => { x with deadline := x.deadlineNow }).unsettled = s.unsettled := modBay_unsettled b _ rfl
  simp only [recompute]
  split <;> simp [h]

@[simp] theorem fileRequest_unsettled (b : BayId) (o : Origin) (p : Nat) (l : List Nat) :
    (fileRequest b o p l s).2.unsettled = s.unsettled := by
  simp only [fileRequest]
  split
  · rfl
  · rw [reportBay_unsettled]; exact modBay_unsettled b _ rfl

@[simp] theorem fileForOrder_unsettled (b : BayId) (n p : Nat) : (fileForOrder b n p s).2.unsettled = s.unsettled := by
  have h : ∀ f : Bay → Bay, (∀ x, (f x).unsettled = x.unsettled) → (s.modBay b f).unsettled = s.unsettled :=
    fun f hf => modBay_unsettled b f (hf _)
  simp only [fileForOrder]
  repeat' split
  all_goals first | rfl | exact fileRequest_unsettled .. | exact h _ fun _ => rfl

@[simp] theorem reRequest_unsettled (b : BayId) : (reRequest b s).unsettled = s.unsettled := by
  simp only [reRequest]
  split
  · rfl
  · simp

/-! ### Coils and waiting lists -/

@[simp] theorem clearRoomAlarm_unsettled (r : RoomId) : (clearRoomAlarm r s).unsettled = s.unsettled := by
  simp only [clearRoomAlarm]
  split <;> simp

@[simp] theorem recordRoomAlarm_unsettled (r : RoomId) (a : RoomAlarm) : (recordRoomAlarm r a s).unsettled = s.unsettled := by
  simp only [recordRoomAlarm]
  rw [modRoom_unsettled r _ rfl]
  split <;> simp

@[simp] theorem rechooseAlarm_unsettled (r : RoomId) : (rechooseAlarm r s).unsettled = s.unsettled := by
  simp only [rechooseAlarm]
  split <;> simp

@[simp] theorem noticeDefrosting_unsettled (r : RoomId) (n : Nat) : (noticeDefrosting r n s).unsettled = s.unsettled := by
  simp only [noticeDefrosting]
  split
  · rfl
  · rw [rechooseAlarm_unsettled]; exact modRoom_unsettled r _ rfl

@[simp] theorem setCoilState_unsettled (c : CoilId) (st : CoilState) : (setCoilState c st s).unsettled = s.unsettled := by
  simp only [setCoilState, setFlag_unsettled]
  exact modCoil_unsettled c _ rfl

@[simp] theorem reportCoils_unsettled (r : RoomId) : (reportCoils r s).unsettled = s.unsettled := by
  simp only [reportCoils]
  rw [modLoad_unsettled r _ rfl, modDefrost_unsettled r _ rfl]
  split
  · rfl
  · rw [modLoad_unsettled r _ rfl, noticeDefrosting_unsettled]

@[simp] theorem endWait_unsettled (c : CoilId) : (endWait c s).unsettled = s.unsettled := by
  have h : ((leaveWaiting c s).modCoil c fun x => { x with waitStart := none, waitExp := none, delayed := false }).unsettled =
      s.unsettled := by
    rw [modCoil_unsettled c _ rfl, leaveWaiting, modDefrost_unsettled _ _ rfl]
  simp only [endWait]
  split <;> simp [h]

@[simp] theorem grantCoil_unsettled (c : CoilId) : (grantCoil c s).unsettled = s.unsettled := by
  simp only [grantCoil, setCoilState_unsettled]
  rw [modCoil_unsettled c _ rfl, endWait_unsettled]

@[simp] theorem evaluateWaiting_unsettled (r : RoomId) : (evaluateWaiting r s).unsettled = s.unsettled := by
  simp only [evaluateWaiting]
  split
  · rw [reportCoils_unsettled]
    refine foldl_keeps State.unsettled _ ?_ _ _
    intro s c
    simp only [considerCoil]
    split <;> simp
  · rfl

/-! ### Serving and settling -/

@[simp] theorem grantHead_unsettled (r : RoomId) (b : BayId) : (grantHead r b s).unsettled = s.unsettled := by simp [grantHead]

@[simp] theorem serveHeads_unsettled (r : RoomId) (n : Nat) : (serveHeads r n s).unsettled = s.unsettled := by
  induction n generalizing s with
  | zero => rfl
  | succ n ih =>
    simp only [serveHeads]
    repeat' split
    all_goals simp [ih]

@[simp] theorem serveQueue_unsettled (r : RoomId) : (serveQueue r s).unsettled = s.unsettled := serveHeads_unsettled ..

@[simp] theorem passFall_unsettled (r : RoomId) : (passFall r s).unsettled = s.unsettled := by
  simp only [passFall, serveQueue_unsettled]
  split <;> simp

@[simp] theorem fileBays_unsettled (n : Nat) : (fileBays n s).unsettled = s.unsettled := by
  simp only [fileBays]
  split
  · split
    · refine foldl_keeps State.unsettled _ ?_ _ _
      intro s b
      split <;> simp
    · rfl
  · rfl

@[simp] theorem settleRoom_unsettled (s0 : State) (es ss : List RoomId) (r : RoomId) :
    (settleRoom s0 es ss s r).unsettled = s.unsettled := by
  simp only [settleRoom]
  repeat' split
  all_goals simp

/-- The settling of an event changes nothing that `State.unsettled` keeps. -/
@[simp] theorem settle_unsettled (s0 : State) (es ss : List RoomId) : (settle s0 es ss s).unsettled = s.unsettled :=
  foldl_keeps State.unsettled _ (fun s r => settleRoom_unsettled s s0 es ss r) _ _

/-! ### What agreement on `unsettled` gives -/

section
variable {s} {t : State} (h : t.unsettled = s.unsettled)
include h

theorem unsettled_pending : t.pending = s.pending := by simpa only [State.unsettled] using congrArg State.pending h
theorem unsettled_clock : t.clock = s.clock := by simpa only [State.unsettled] using congrArg State.clock h
theorem unsettled_hold : t.hold = s.hold := by simpa only [State.unsettled] using congrArg State.hold h
theorem unsettled_resetRec : t.resetRec = s.resetRec := by simpa only [State.unsettled] using congrArg State.resetRec h
theorem unsettled_nodes : t.nodes = s.nodes := by simpa only [State.unsettled] using congrArg State.nodes h
theorem unsettled_line : t.line = s.line := by simpa only [State.unsettled] using congrArg State.line h
theorem unsettled_probes : t.probes = s.probes := by simpa only [State.unsettled] using congrArg State.probes h
theorem unsettled_loadTable : t.loadTable = s.loadTable := by simpa only [State.unsettled] using congrArg State.loadTable h
theorem unsettled_frostTimer : t.frostTimer = s.frostTimer := by simpa only [State.unsettled] using congrArg State.frostTimer h
theorem unsettled_pallets : t.pallets = s.pallets := by simpa only [State.unsettled] using congrArg State.pallets h
theorem unsettled_lanes : t.lanes = s.lanes := by simpa only [State.unsettled] using congrArg State.lanes h
theorem unsettled_trucks : t.trucks = s.trucks := by simpa only [State.unsettled] using congrArg State.trucks h
theorem unsettled_expTimer : t.expTimer = s.expTimer := by simpa only [State.unsettled] using congrArg State.expTimer h
theorem unsettled_lastOrder : t.lastOrder = s.lastOrder := by simpa only [State.unsettled] using congrArg State.lastOrder h

theorem unsettled_port (p : PortId) : t.port p = { s.port p with flags := (t.port p).flags } := by
  have e : (t.port p).unsettled = (s.port p).unsettled := by
    have := congrArg (fun x : State => x.ports.get p) h
    simp only [State.unsettled, ports_get_map] at this
    exact this
  generalize t.port p = a at e ⊢
  generalize s.port p = b at e ⊢
  cases a; cases b
  simpa [PortCtx.unsettled] using e

theorem unsettled_room (r : RoomId) : (t.room r).unsettled = (s.room r).unsettled := by
  have := congrArg (fun x : State => tget x.rooms r) h
  simp only [State.unsettled, tget_map] at this
  exact this

theorem unsettled_load (r : RoomId) : (t.load r).unsettled = (s.load r).unsettled := by
  have := congrArg (fun x : State => tget x.loads r) h
  simp only [State.unsettled, tget_map] at this
  exact this

theorem unsettled_bay (b : BayId) : (t.bay b).unsettled = (s.bay b).unsettled := by
  have := congrArg (fun x : State => tget x.bays b) h
  simp only [State.unsettled, tget_map] at this
  exact this

theorem unsettled_coil (c : CoilId) : (t.coil c).unsettled = (s.coil c).unsettled := by
  have := congrArg (fun x : State => tget x.coils c) h
  simp only [State.unsettled, tget_map] at this
  exact this

theorem unsettled_defrost (r : RoomId) : (t.defrost r).unsettled = (s.defrost r).unsettled := by
  have := congrArg (fun x : State => tget x.defrosts r) h
  simp only [State.unsettled, tget_map] at this
  exact this

theorem unsettled_orders : t.orders.map Order.unsettled = s.orders.map Order.unsettled := by
  simpa only [State.unsettled] using congrArg State.orders h

end

/-! ### The temperature alarm called for (R17) -/

theorem calledAlarm_eq_alarmFor (x : Room) : x.calledAlarm = alarmFor x.band x.defrosting := by
  unfold Room.calledAlarm alarmFor; cases x.band <;> cases x.defrosting <;> rfl

theorem FirstWaiting.mem {b : BayId} {out : Order → Prop} {all os : List Order} (h : FirstWaiting b out all os) {o : Order} (m : o ∈ os) :
    o ∈ all ∧ WaitsFor b o := h.1 o m

theorem waitsFor_iff_waitingFor (s : State) (b : BayId) (o : Order) : o ∈ s.waitingFor b ↔ o ∈ s.orders ∧ WaitsFor b o := by
  simp [State.waitingFor, WaitsFor, Order.uses]

end Sys2Proof.Machine
end

