-- ==== Sys2Proof/Laws/Notices.lean ====
section
/-! SUPPORT. What notices to orders and changes of grant state leave alone: the alarm list, the rooms, the loads and the coils; and, of a bay,
what a notice itself leaves alone. -/

namespace Sys2Proof.Machine

/-- The state without the port flags, the bays, and what a notice may change of an order. -/
def State.beyondBays (s : State) : State :=
  { s with ports := s.ports.map PortCtx.unsettled, bays := tfill 32 .reset, orders := s.orders.map Order.unsettled }

variable (s : State)

@[simp] theorem setFlag_beyondBays (roles : List Role) (k : Flag) : (setFlag roles k s).beyondBays = s.beyondBays := by
  have h := congrArg State.ports (setFlag_unsettled s roles k)
  simp only [State.unsettled] at h
  simp only [State.beyondBays, h]
  rfl

@[simp] theorem modBay_beyondBays (b : BayId) (f : Bay → Bay) : (s.modBay b f).beyondBays = s.beyondBays := rfl

@[simp] theorem unlinkOrder_beyondBays (n : Nat) : (unlinkOrder n s).beyondBays = s.beyondBays :=
  foldl_keeps State.beyondBays _ (fun s b => modBay_beyondBays s b _) _ _

theorem putOrder_beyondBays {old new : Order} {n : Nat} (ho : s.order n = some old) (hu : new.unsettled = old.unsettled)
    (hs : new.state.unfinished) : (putOrder old new s).beyondBays = s.beyondBays := by
  have hn : new.num = n := by
    have h1 : old.num = n := by simpa [State.order] using List.find?_some ho
    have h2 : new.num = old.num := show new.unsettled.num = old.unsettled.num from hu ▸ rfl
    rw [h2, h1]
  have hl : ({ s with orders := replaceFirst (·.num == new.num) new s.orders } : State).beyondBays = s.beyondBays := by
    have : (replaceFirst (·.num == new.num) new s.orders).map Order.unsettled = s.orders.map Order.unsettled := by
      apply replaceFirst_map
      intro b hb
      rw [hn] at hb
      rw [State.order] at ho
      rw [ho] at hb
      cases hb
      exact hu
    simp only [State.beyondBays, this]
  have hf : ∀ t : State, (flagOrder old new t).beyondBays = t.beyondBays := fun t => by
    simp only [flagOrder]
    split <;> simp
  simp only [putOrder, hs, if_true, settleOrder]
  split <;> simp_all [OrderState.unfinished]

@[simp] theorem evaluateOnNotice_beyondBays (n : Nat) : (evaluateOnNotice n s).beyondBays = s.beyondBays := by
  simp only [evaluateOnNotice]
  split
  · next o ho =>
    split
    · exact putOrder_beyondBays s ho (evaluated_unsettled ..) (evaluated_unfinished _ _ (by split <;> rfl) _)
    · rfl
  · rfl

@[simp] theorem noticeOrders_beyondBays (f : Order → Bool) : (noticeOrders f s).beyondBays = s.beyondBays :=
  foldl_keeps State.beyondBays _ (fun s _ => evaluateOnNotice_beyondBays s _) _ _

@[simp] theorem takeOutcome_beyondBays (out : NamedOutcome) (n : Nat) : (takeOutcome out n s).beyondBays = s.beyondBays := by
  simp only [takeOutcome]
  split
  · next o ho =>
    split
    · split <;> exact putOrder_beyondBays s ho rfl rfl
    · rfl
  · rfl

@[simp] theorem carryingNotice_beyondBays (b : BayId) (n : Nat) : (carryingNotice b n s).beyondBays = s.beyondBays := by
  simp only [carryingNotice]
  split
  · next o ho =>
    split
    · next h => exact putOrder_beyondBays s ho rfl (by simp [h.1, OrderState.unfinished])
    · rfl
  · rfl

@[simp] theorem noticeBay_beyondBays (b : BayId) (named : List Nat) (out : NamedOutcome) :
    (noticeBay b named out s).beyondBays = s.beyondBays := by
  simp only [noticeBay]
  rw [foldl_keeps State.beyondBays _ (by simp), foldl_keeps State.beyondBays _ (by simp)]

@[simp] theorem noticeLists_beyondBays (eps : List Endpoint) : (noticeLists eps s).beyondBays = s.beyondBays :=
  noticeOrders_beyondBays ..

@[simp] theorem noticeMarked_beyondBays (ids : List Nat) : (noticeMarked ids s).beyondBays = s.beyondBays := by
  simp only [noticeMarked, noticeOrders_beyondBays]
  simp only [State.beyondBays, List.map_map]
  congr 1
  apply List.map_congr_left
  intro o _
  simp only [Function.comp]
  split <;> rfl

@[simp] theorem reportBay_beyondBays (b : BayId) (named : List Nat) (out : NamedOutcome) :
    (reportBay b named out s).beyondBays = s.beyondBays := by simp [reportBay]

@[simp] theorem fileRequest_beyondBays (b : BayId) (o : Origin) (p : Nat) (l : List Nat) :
    (fileRequest b o p l s).2.beyondBays = s.beyondBays := by
  simp only [fileRequest]
  split <;> simp

@[simp] theorem fileForOrder_beyondBays (b : BayId) (n p : Nat) : (fileForOrder b n p s).2.beyondBays = s.beyondBays := by
  simp only [fileForOrder]
  repeat' split
  all_goals simp

@[simp] theorem reRequest_beyondBays (b : BayId) : (reRequest b s).beyondBays = s.beyondBays := by
  simp only [reRequest]
  split <;> simp

@[simp] theorem lockoutArises_beyondBays (b : BayId) : (lockoutArises b s).beyondBays = s.beyondBays := by
  simp only [lockoutArises]
  split <;> simp

@[simp] theorem setCauses_beyondBays (b : BayId) (f : Causes → Causes) : (setCauses b f s).beyondBays = s.beyondBays := by
  simp only [setCauses]
  repeat' split
  all_goals simp

@[simp] theorem grantBay_beyondBays (b : BayId) : (grantBay b s).beyondBays = s.beyondBays := by simp [grantBay]

@[simp] theorem lapseGrant_beyondBays (b : BayId) : (lapseGrant b s).beyondBays = s.beyondBays := by simp [lapseGrant]

/-! ### What agreement on `beyondBays` gives -/

section
variable {s} {t : State} (h : t.beyondBays = s.beyondBays)
include h

theorem beyondBays_pending : t.pending = s.pending := by simpa only [State.beyondBays] using congrArg State.pending h
theorem beyondBays_clock : t.clock = s.clock := by simpa only [State.beyondBays] using congrArg State.clock h
theorem beyondBays_hold : t.hold = s.hold := by simpa only [State.beyondBays] using congrArg State.hold h
theorem beyondBays_resetRec : t.resetRec = s.resetRec := by simpa only [State.beyondBays] using congrArg State.resetRec h
theorem beyondBays_alarms : t.alarms = s.alarms := by simpa only [State.beyondBays] using congrArg State.alarms h
theorem beyondBays_overflow : t.overflow = s.overflow := by simpa only [State.beyondBays] using congrArg State.overflow h
theorem beyondBays_nodes : t.nodes = s.nodes := by simpa only [State.beyondBays] using congrArg State.nodes h
theorem beyondBays_line : t.line = s.line := by simpa only [State.beyondBays] using congrArg State.line h
theorem beyondBays_probes : t.probes = s.probes := by simpa only [State.beyondBays] using congrArg State.probes h
theorem beyondBays_rooms : t.rooms = s.rooms := by simpa only [State.beyondBays] using congrArg State.rooms h
theorem beyondBays_loadTable : t.loadTable = s.loadTable := by simpa only [State.beyondBays] using congrArg State.loadTable h
theorem beyondBays_loads : t.loads = s.loads := by simpa only [State.beyondBays] using congrArg State.loads h
theorem beyondBays_coils : t.coils = s.coils := by simpa only [State.beyondBays] using congrArg State.coils h
theorem beyondBays_defrosts : t.defrosts = s.defrosts := by simpa only [State.beyondBays] using congrArg State.defrosts h
theorem beyondBays_frostTimer : t.frostTimer = s.frostTimer := by simpa only [State.beyondBays] using congrArg State.frostTimer h
theorem beyondBays_pallets : t.pallets = s.pallets := by simpa only [State.beyondBays] using congrArg State.pallets h
theorem beyondBays_lanes : t.lanes = s.lanes := by simpa only [State.beyondBays] using congrArg State.lanes h
theorem beyondBays_trucks : t.trucks = s.trucks := by simpa only [State.beyondBays] using congrArg State.trucks h
theorem beyondBays_expTimer : t.expTimer = s.expTimer := by simpa only [State.beyondBays] using congrArg State.expTimer h
theorem beyondBays_lastOrder : t.lastOrder = s.lastOrder := by simpa only [State.beyondBays] using congrArg State.lastOrder h

end

/-! ### A bay under notices -/

/-- A bay without the orders linked to it. -/
def Bay.linkless (x : Bay) : Bay := { x with request := x.request.map fun q => { q with linked := [] }, granted := [] }

theorem unlink_linkless (n : Nat) (x : Bay) : (x.unlink n).linkless = x.linkless := by
  simp [Bay.unlink, Bay.linkless, Option.map_map, Function.comp_def]

/-- Bays that agree but for the orders linked to them. -/
def State.bayRecords (s : State) : Tab Bay 32 := s.bays.map Bay.linkless

theorem modBay_bayRecords (b : BayId) (f : Bay → Bay) (h : (f (s.bay b)).linkless = (s.bay b).linkless) :
    (s.modBay b f).bayRecords = s.bayRecords := tmod_map _ _ _ _ h

@[simp] theorem unlinkOrder_bayRecords (n : Nat) : (unlinkOrder n s).bayRecords = s.bayRecords :=
  foldl_keeps State.bayRecords _ (fun s b => modBay_bayRecords s b _ (unlink_linkless n _)) _ _

theorem setSourceOf_bays (ep : Endpoint) (o : Option Nat) : (s.setSourceOf ep o).bays = s.bays := by cases ep <;> rfl

@[simp] theorem putOrder_bayRecords (old new : Order) : (putOrder old new s).bayRecords = s.bayRecords := by
  have hf : ∀ t u, (flagOrder old u t).bayRecords = t.bayRecords := fun t u => by
    simp only [flagOrder]
    split <;> rfl
  have hs : ∀ (t : State) ep o, (t.setSourceOf ep o).bayRecords = t.bayRecords := fun t ep o => by
    simp only [State.bayRecords, setSourceOf_bays]
  simp only [putOrder, settleOrder]
  split <;> simp [hs, hf] <;> rfl

@[simp] theorem evaluateOnNotice_bayRecords (n : Nat) : (evaluateOnNotice n s).bayRecords = s.bayRecords := by
  simp only [evaluateOnNotice]
  split
  · split <;> simp
  · rfl

@[simp] theorem noticeOrders_bayRecords (f : Order → Bool) : (noticeOrders f s).bayRecords = s.bayRecords :=
  foldl_keeps State.bayRecords _ (fun s _ => evaluateOnNotice_bayRecords s _) _ _

@[simp] theorem noticeBay_bayRecords (b : BayId) (named : List Nat) (out : NamedOutcome) :
    (noticeBay b named out s).bayRecords = s.bayRecords := by
  have h1 : ∀ (s : State) n, (takeOutcome out n s).bayRecords = s.bayRecords := fun s n => by
    simp only [takeOutcome]
    repeat' split
    all_goals simp
  have h2 : ∀ (s : State) n, (carryingNotice b n s).bayRecords = s.bayRecords := fun s n => by
    simp only [carryingNotice]
    repeat' split
    all_goals simp
  simp only [noticeBay]
  rw [foldl_keeps State.bayRecords _ (by simp [h2]), foldl_keeps State.bayRecords _ (by simp [h1])]

/-- A report of a grant state changes, of the bays, only the orders linked to them. -/
@[simp] theorem reportBay_bayRecords (b : BayId) (named : List Nat) (out : NamedOutcome) :
    (reportBay b named out s).bayRecords = s.bayRecords := by
  rw [reportBay, noticeBay_bayRecords]
  rfl

theorem bayRecords_bay {t : State} (h : t.bayRecords = s.bayRecords) (b : BayId) : (t.bay b).linkless = (s.bay b).linkless := by
  have := congrArg (fun x : Tab Bay 32 => tget x b) h
  simp only [State.bayRecords, tget_map] at this
  exact this

end Sys2Proof.Machine
end

