-- ==== Sys2Proof/Laws/Requests.lean ====
section
/-! SUPPORT. What taking a request does, said once; the forms of values in payloads read back; events of a part not held in reset. -/

namespace Sys2Proof.Machine

/-! ### Events -/

theorem takeEvent_free (f : State → State) {s : State} (h : s.hold = none) : takeEvent f s = .next (f s) := by
  simp [takeEvent, h]

theorem takeEvent_held (f : State → State) {s : State} {c : ResetCause} (h : s.hold = some c) : takeEvent f s = .next s := by
  simp [takeEvent, h]

theorem takeWhen_due (due : State → Bool) (f : State → State) {s : State} (h : s.hold = none) (hd : due s) :
    takeWhen due f s = .next (f s) := by
  simp [takeWhen, takeEvent, h, hd]

theorem takeWhen_not (due : State → Bool) (f : State → State) {s : State} (hd : due s = false) :
    takeWhen due f s = .next s := by
  simp [takeWhen, takeEvent, hd]

/-! ### Values in payloads (R170, R171) -/

theorem toNat_byte {n : Nat} (h : n < 256) : (BitVec.ofNat 8 n).toNat = n := by
  simp [BitVec.toNat_ofNat, Nat.mod_eq_of_lt h]

theorem nat2_bytes {n : Nat} (h : n < 65536) : nat2 (BitVec.ofNat 8 (n / 256)) (BitVec.ofNat 8 n) = n := by
  simp only [nat2, BitVec.toNat_ofNat]
  omega

theorem nat4_bytes {n : Nat} (h : n < 4294967296) :
    nat4 (BitVec.ofNat 8 (n / 65536 / 256)) (BitVec.ofNat 8 (n / 65536)) (BitVec.ofNat 8 (n / 256)) (BitVec.ofNat 8 n) = n := by
  simp only [nat4, nat2, BitVec.toNat_ofNat]
  omega

theorem int2_bytes {x : Int} (h1 : -32768 ≤ x) (h2 : x ≤ 32767) :
    int2 (BitVec.ofNat 8 ((BitVec.ofInt 16 x).toNat / 256)) (BitVec.ofNat 8 (BitVec.ofInt 16 x).toNat) = x := by
  rw [int2, nat2_bytes (BitVec.isLt _), BitVec.ofNat_toNat, BitVec.setWidth_eq, BitVec.toInt_ofInt]
  exact Int.bmod_eq_of_le (by omega) (by omega)

/-! ### Taking a request (R162) -/

theorem framePayload_ok {payload : List Byte} (h : payload.length ≤ Config.payloadMax) :
    framePayload (BitVec.ofNat 8 payload.length :: payload) = some payload := by
  have h' : payload.length < 256 := Nat.lt_of_le_of_lt h (by decide)
  simp [framePayload, toNat_byte h', h]

/-- A well-framed request from a role it is open to, its payload of a length that fits: its block handles it, and the response is placed. -/
theorem takeRequest_asks {α : Type} {code : Nat} {parse : List Byte → Option α} {handle : α → State → Answer} {p : PortId}
    {s : State} {role : Role} {payload : List Byte} {x : α} (h : s.asks p role code payload) (hc : code < 256)
    (hr : ((catalogue code).getD []).contains role) (hp : parse payload = some x) :
    takeRequest code parse handle p s = .next (respond p (handle x s).2 (handle x s).1) := by
  obtain ⟨h1, h2, h3, h4⟩ := h
  simp [takeRequest, takeEvent, h1, h4, toNat_byte hc, framePayload_ok h3, handleRequest, hp, h2,
    List.contains_iff_mem.mp hr]

/-- With no request in progress on the port, nothing is taken. -/
theorem takeRequest_none {α : Type} (code : Nat) (parse : List Byte → Option α) (handle : α → State → Answer) {p : PortId}
    {s : State} (h : (s.port p).request = none) : takeRequest code parse handle p s = .next s := by
  simp [takeRequest, takeEvent, h]

/-- All that taking a request can do: nothing; or the response to a bad frame, to a role, to a length; or what the block answers. -/
theorem takeRequest_cases {α : Type} {code : Nat} {parse : List Byte → Option α} {handle : α → State → Answer} {p : PortId}
    {s t : State} (h : takeRequest code parse handle p s = .next t) :
    t = s ∨ (∃ st, (st = .frame ∨ st = .role) ∧ t = respond p (.bare st) s) ∨
      ∃ x payload, parse payload = some x ∧ s.hold = none ∧ ((catalogue code).getD []).contains (s.port p).role ∧
        t = respond p (handle x s).2 (handle x s).1 := by
  simp only [takeRequest, takeEvent, Host.Outcome.next.injEq] at h
  subst h
  split
  · exact .inl rfl
  · next hh =>
    have hn : s.hold = none := by simpa using hh
    split
    · split
      · right
        split
        · exact .inl ⟨_, .inl rfl, rfl⟩
        · simp only [handleRequest]
          split
          · exact .inl ⟨_, .inr rfl, rfl⟩
          · next hr =>
            split
            · exact .inl ⟨_, .inl rfl, rfl⟩
            · next x hx => exact .inr ⟨x, _, hx, hn, by simpa using hr, rfl⟩
      · exact .inl rfl
    · exact .inl rfl

/-- Placing a response: the request is over and the response held, on that port alone (R162). -/
theorem respond_port (p q : PortId) (r : Response) (s : State) :
    (respond p r s).port q = if q = p then { s.port q with request := none, response := some r } else s.port q := by
  cases p <;> cases q <;> rfl

end Sys2Proof.Machine
end

