-- ==== Sys2Proof/Tests/Slice0.lean ====
section
/-! SUPPORT. Tests: the checks of `WellFormed`, worked examples of the spec, single steps, and a witness for the hypotheses of each statement. -/

namespace Sys2Proof.Tests

set_option Elab.async false

open Sys2Proof.Machine

/-! ### WellFormed refuses ill-formed commands -/

theorem length_pulse : (List.replicate (Config.pulseBitsMax + 1) true).length = Config.pulseBitsMax + 1 := List.length_replicate

theorem length_reply : (List.replicate (Config.rxSamplesMax + 1) true).length = Config.rxSamplesMax + 1 := List.length_replicate

theorem test_wellFormed_refuses_long_pulse :
    (Instr.longSelPulse .A (List.replicate (Config.pulseBitsMax + 1) true)).wellFormed = false := by
  simp only [Instr.wellFormed, length_pulse]; decide

theorem test_wellFormed_refuses_long_reply :
    (Instr.statusFrameReceived (List.replicate (Config.rxSamplesMax + 1) true)).wellFormed = false := by
  simp only [Instr.wellFormed, length_reply]; decide

theorem test_wellFormed_refuses_long_window :
    (Instr.replyWindowExpiry (List.replicate (Config.rxSamplesMax + 1) true)).wellFormed = false := by
  simp only [Instr.wellFormed, length_reply]; decide

theorem test_wellFormed_takes_a_tick : Instr.dockClockTick.wellFormed = true := by decide

/-! ### Worked examples of the spec -/

/-- 01_probes_and_room_temperature.md 1.1.3, all eight rows. -/
theorem test_calibration :
    let five : Calib := { loCount := 800, hiCount := 3200, loRef := -400, hiRef := 200 }
    let nine : Calib := { loCount := 1000, hiCount := 3000, loRef := 100, hiRef := -300 }
    let eleven : Calib := { loCount := 2000, hiCount := 2100, loRef := -200, hiRef := -100 }
    [1700, 1190, 798, 200].map five.line = [-175, -302, -401, -550] ∧ [2150, 1007].map nine.line = [-130, 99] ∧
      eleven.line 2800 = 600 ∧ clampTemp 600 = 500 := by decide

/-- R10's three examples. -/
theorem test_mean : meanOf [-175, -168] = -171 ∧ meanOf [-170, -171, -171] = -171 ∧ meanOf [-150, -153] = -151 := by decide

/-- 01_probes_and_room_temperature.md 1.2.3: updates 1, 2, 4 and 14, and R after them. -/
theorem test_filter :
    [-2816, -2796, -2770, -2739].map (fun f => filterStep 2 (-171) (some f)) = [-2796, -2781, -2762, -2739] ∧
      [-2796, -2781, -2762, -2739].map reportedOf = [-175, -174, -173, -171] := by decide

/-- R15's table. -/
theorem test_bands :
    let c : RoomCfg := { Room.reset.cfg with warn := -180, alarm := -150, critical := -120, hysteresis := 10 }
    [c.nextBand .normal (-140), c.nextBand .warn (-120), c.nextBand .alarm (-155), c.nextBand .alarm (-165), c.nextBand .warn (-185),
      c.nextBand .critical (-195)] = [.alarm, .critical, .alarm, .warn, .warn, .normal] := by decide

/-- 04_coils_frost_and_defrost.md 4.2.3: the three cases, and expiry 4 of room 6. -/
theorem test_frost_shares :
    [frostShare 2 14 2 0, frostShare 2 14 2 1, frostShare 2 15 2 0, frostShare 2 15 2 1, frostShare 2 15 1 0, frostShare 2 40 1 0] =
      [9, 9, 10, 9, 17, 42] := by decide

/-- R111's table. -/
theorem test_exposure :
    [accrued 26450 10 (-180) (-175), accrued 26500 10 (-180) (-145), accrued 26850 10 (-180) (-232), accrued 1000 10 (-200) (-200),
      accrued 4294960000 10 (-400) 500] = [26500, 26850, 26850, 1000, 4294967295] := by decide

/-- R154: the characters 1 to 9 bring the register to 0x29B1. -/
theorem test_check_register : crcOf [0x31, 0x32, 0x33, 0x34, 0x35, 0x36, 0x37, 0x38, 0x39] = 0x29B1 := by decide +kernel

/-- R153: a byte of sixteen samples a bit, least significant bit first, between high lines. -/
theorem test_receiver :
    receive ([true, false, true, false, true, false, false, true, false, true].flatMap (List.replicate 16 ·) ++ [true]) = [0xA5] := by
  decide +kernel

/-- R153: a low pulse shorter than half a bit is noise. -/
theorem test_receiver_noise : receive (List.replicate 4 true ++ List.replicate 7 false ++ List.replicate 200 true) = [] := by
  decide +kernel

/-- R152: start bit low, data bits with the least significant first, stop bit high; what TX drives, a receiver of R153 takes. -/
theorem test_serial : serialByte 0xA5 = [false, true, false, true, false, false, true, false, true, true] ∧
    receive ((true :: serialBits [0xA5, 0x01]).flatMap (List.replicate 16 ·)) = [0xA5, 0x01] := by decide +kernel

/-- R35's example: a bay opened at 5,000 under a sealed limit of 7,200 s, with two extensions of 3,600 s and with three. -/
theorem test_open_clamp :
    let b : Bay := { Bay.reset with cfg := { Bay.reset.cfg with sealedLimit := 7200 }, grant := .active, openedAt := some 5000
                                    limitKind := some .sealed }
    [b.deadlineNow, { b with extTotal := 3600 }.deadlineNow, { b with extTotal := 7200 }.deadlineNow,
      { b with extTotal := 10800 }.deadlineNow] = [some 12200, some 15800, some 19400, some 19400] := by decide

/-! ### The states of the tests -/

/-- A request is put in progress on a port. -/
def ask (p : PortId) (code : Nat) (payload : List Byte) (s : State) : State :=
  s.modPort p fun c => { c with request := some (BitVec.ofNat 8 code :: BitVec.ofNat 8 payload.length :: payload) }

theorem asks_ask (s : State) (p : PortId) (role : Role) (code : Nat) (payload : List Byte)
    (h : s.hold = none ∧ (s.port p).role = role ∧ payload.length ≤ 250) : (ask p code payload s).asks p role code payload := by
  obtain ⟨h1, h2, h3⟩ := h
  cases p <;> exact ⟨h1, h2, h3, rfl⟩

/-- An enabled room in NORMAL at −180 tenths. -/
def room0 : Room := { Room.reset with enabled := true, cfg := { Room.reset.cfg with warn := -100, alarm := -50, critical := 0 }, filter := some (-2880) }

def order1 : Order :=
  { num := 1, mode := .run, source := .lane 0, pickEnd := .front, named := 0, dest := .lane 1, placement := .back, requested := 2, done := 0,
    priority := 0, state := .ready, reason := none, cause := none, carried := none, leadWarned := false, cancelPending := false,
    createdAt := 0, endedAt := none }

def pallet7 : Pallet :=
  { id := 7, limit := -200, budget := 1000, exposure := 0, place := .lane 0, warned := false, held := false, released := false,
    admittedAt := 0 }

/-- The yard of the tests: rooms 0 and 1, a bay and a probe node, probes of room 0 and coil 0, bay 0, coils 0 and 1, lanes 0 and 1, a pallet in
lane 0. -/
def yard : State :=
  { State.reset with
    clock := 100
    nodes := (State.reset.nodes.set 0 { kind := some .bay, address := some 1, enabled := true, state := .online, misses := 0, bad := 0
                                        payload := none }).set 1
      { kind := some .probe, address := some 2, enabled := true, state := .online, misses := 0, bad := 0, payload := none }
    rooms := (State.reset.rooms.set 0 room0).set 1 room0
    probes := (State.reset.probes.set 0
        { enabled := true, node := some 1, channel := 0, kind := .air, owner := some (.room 0)
          cal := some { loCount := 1, hiCount := 4094, loRef := -600, hiRef := 500 }, cond := .ok, value := some (-180), clamped := false }).set 1
        { enabled := true, node := some 1, channel := 1, kind := .coil, owner := some (.coil 0)
          cal := some { loCount := 1, hiCount := 4094, loRef := -600, hiRef := 500 }, cond := .ok, value := some (-180), clamped := false }
    bays := State.reset.bays.set 0 { Bay.reset with enabled := true, node := some 0, shutter := .closed, sealState := .sealed, cond := .sealed }
    coils := (State.reset.coils.set 0 { Coil.reset with enabled := true, state := .running, probe := some 1 }).set 1
      { Coil.reset with enabled := true, state := .running }
    lanes := (State.reset.lanes.set 0 { Lane.reset with enabled := true, pallets := [7] }).set 1 { Lane.reset with enabled := true }
    pallets := [pallet7] }

/-- The yard with one order from lane 0 to lane 1. -/
def yardWith (o : Order) : State := { yard with orders := [o] }

/-- Port A holding this role. -/
def withRoleA (r : Role) (s : State) : State := s.modPort .A fun c => { c with role := r }

/-! ### Witnesses: probes and rooms (O1 to O8) -/

def cal0 : Calib := { loCount := 1, hiCount := 4094, loRef := -600, hiRef := 500 }

theorem witness_GoodReading : (yard.probe 0).cal = some cal0 ∧ cal0.loCount < cal0.hiCount := by decide +kernel

theorem witness_RoomMean : -180 ∈ yard.usable 0 ∧ ([-600, 500] : List Int) ≠ [] ∧ ∀ v ∈ ([-600, 500] : List Int), -600 ≤ v ∧ v ≤ 500 := by
  decide +kernel

/-- A room of the yard has an AIR probe in OK. -/
def seen (s : State) (r : RoomId) : Prop :=
  ∃ n, (s.probe n).enabled ∧ (s.probe n).kind = .air ∧ (s.probe n).owner = some (.room r) ∧ (s.probe n).cond = .ok

/-- F present and absent, a PROBE_LOST room found again, a band that rises at the update, a room without an AIR probe. -/
theorem witness_RoomUpdate :
    let n := yard.modRoom 0 fun x => { x with filter := none }
    let l := yard.modRoom 0 fun x => { x with probeLost := true }
    let u := yard.modProbe 0 fun x => { x with value := some 500 }
    (seen yard 0 ∧ (yard.room 0).filter = some (-2880)) ∧ (seen n 0 ∧ (n.room 0).filter = none) ∧
      (seen l 0 ∧ (l.room 0).probeLost ∧ l.alarmsOk) ∧ (seen u 0 ∧ ((updateRoom 0 u).room 0).band = .alarm ∧ (u.room 0).band = .normal) ∧
      ¬ seen yard 1 ∧ (yard.room 1).probeLost = false := by
  unfold State.alarmsOk seen; decide +kernel

theorem witness_BandRule : room0.cfg.warn < room0.cfg.alarm ∧ room0.cfg.alarm < room0.cfg.critical ∧ 0 ≤ room0.cfg.hysteresis := by decide

/-- Probes that name entry 1, and one that does not; a good and a faulty reading; a probe in FAULT; the one COIL probe of a coil in DEFROST whose
reading reaches its level; room 0, whose only AIR probe the loss takes. -/
theorem witness_PayloadAndLoss :
    let named (n : ProbeId) : Prop := (yard.probe n).enabled = true ∧ (yard.probe n).node = some 1
    let f := yard.modProbe 0 fun x => { x with cond := .fault }
    let d := yard.modCoil 0 fun x => { x with state := .defrost, cfg := { x.cfg with heatLevel := -600 } }
    (named 0 ∧ named 1 ∧ ¬ named 2) ∧
      (channelValid [1, 8, 0] 0 = true ∧ channelCount [1, 8, 0] 0 = 2048 ∧ channelValid [0, 8, 0] 0 = false ∧
        yard.alarms.length + 63 < 64) ∧
      ((f.probe 0).cond = .fault ∧ (f.probe 0).enabled = true ∧ f.alarmsOk) ∧
      ((d.probe 1).kind = .coil ∧ (d.probe 1).owner = some (.coil 0) ∧ (∀ m, m ≠ 1 → ¬ ((d.probe m).kind = .coil ∧ (d.probe m).enabled)) ∧
        (d.coil 0).state = .defrost ∧ (d.coil 0).heatConfirmed = false ∧ d.alarmsOk ∧ d.coilsOk ∧
        ((takeProbeStatus 1 [3, 8, 0, 8, 0] d).coil 0).heatConfirmed = true) ∧
      ((yard.probe 0).owner = some (.room 0) ∧ (yard.probe 0).cond ≠ .stale ∧ (yard.room 0).probeLost = false ∧
        ((loseProbeNode 1 yard).room 0).probeLost = true) := by
  unfold State.alarmsOk State.coilsOk; decide +kernel

theorem witness_setProbe_air :
    let s := ask .A 0x10 (w1 63 ++ w1 1 ++ w1 3 ++ w1 0 ++ w1 0 ++ cal0.bytes) yard
    s.asks .A .plant 0x10 (w1 63 ++ w1 1 ++ w1 3 ++ w1 0 ++ w1 0 ++ cal0.bytes) ∧ cal0.inRange ∧ (s.probe 63).enabled = false ∧
      (s.node 1).kind = some .probe ∧ s.channelTaken 63 1 3 = false ∧ (s.room 0).enabled ∧ (s.airProbes 0).length < 4 :=
  ⟨asks_ask _ _ _ _ _ (by decide +kernel), by decide +kernel⟩

theorem witness_setProbe_coil :
    let s := ask .A 0x10 (w1 2 ++ w1 1 ++ w1 3 ++ w1 1 ++ w1 1 ++ cal0.bytes) yard
    s.asks .A .plant 0x10 (w1 2 ++ w1 1 ++ w1 3 ++ w1 1 ++ w1 1 ++ cal0.bytes) ∧ cal0.inRange ∧ (s.probe 2).enabled = false ∧
      (s.node 1).kind = some .probe ∧ s.channelTaken 2 1 3 = false ∧ (s.coil 1).enabled ∧
      ∀ m, ¬ ((s.probe m).enabled ∧ (s.probe m).coil = some 1) :=
  ⟨asks_ask _ _ _ _ _ (by decide +kernel), by decide +kernel⟩

theorem witness_setProbe_calibration :
    let s := ask .A 0x10 (w1 0 ++ w1 1 ++ w1 0 ++ w1 0 ++ w1 0 ++ cal0.bytes) yard
    s.asks .A .plant 0x10 (w1 0 ++ w1 1 ++ w1 (s.probe 0).channel.val ++ w1 0 ++ w1 0 ++ cal0.bytes) ∧ cal0.inRange ∧
      (s.probe 0).enabled ∧ (s.probe 0).node = some 1 ∧ (s.probe 0).kind = .air ∧ (s.probe 0).owner = some (.room 0) :=
  ⟨asks_ask _ _ _ _ _ (by decide +kernel), by decide +kernel⟩

theorem witness_setProbe_coil_calibration :
    let s := ask .A 0x10 (w1 1 ++ w1 1 ++ w1 1 ++ w1 1 ++ w1 0 ++ cal0.bytes) yard
    s.asks .A .plant 0x10 (w1 1 ++ w1 1 ++ w1 (s.probe 1).channel.val ++ w1 1 ++ w1 0 ++ cal0.bytes) ∧ cal0.inRange ∧
      (s.probe 1).enabled ∧ (s.probe 1).node = some 1 ∧ (s.probe 1).kind = .coil ∧ (s.probe 1).owner = some (.coil 0) :=
  ⟨asks_ask _ _ _ _ _ (by decide +kernel), by decide +kernel⟩

theorem witness_disableProbe :
    let s (n : Nat) := ask .A 0x11 (w1 n) yard
    ((s 0).asks .A .plant 0x11 (w1 0) ∧ ((s 0).probe 0).enabled ∧ ((s 0).probe 0).kind = .air ∧ ((s 0).probe 0).owner = some (.room 0)) ∧
      (s 1).asks .A .plant 0x11 (w1 1) ∧ ((s 1).probe 1).enabled ∧ ((s 1).probe 1).kind = .coil ∧
        ((s 1).probe 1).owner = some (.coil 0) :=
  ⟨⟨asks_ask _ _ _ _ _ (by decide +kernel), by decide +kernel⟩, asks_ask _ _ _ _ _ (by decide +kernel), by decide +kernel⟩

/-- Settings at the ends of their ranges. -/
def roomCfg : RoomCfg :=
  { warn := -600, alarm := -599, critical := 500, hysteresis := 50, shift := 4, surcharge := 100, reportFalls := true, baseFrost := 255
    concurrency := 3 }

theorem witness_setRoom_start :
    let s := ask .A 0x12 (w1 7 ++ roomCfg.bytes) yard
    s.asks .A .plant 0x12 (w1 7 ++ roomCfg.bytes) ∧ roomCfg.inRange ∧ roomCfg.warn < roomCfg.alarm ∧ roomCfg.alarm < roomCfg.critical ∧
      0 ≤ roomCfg.hysteresis ∧ 0 ≤ roomCfg.surcharge ∧ (s.room 7).enabled = false ∧ s.defrostingCount 7 ≤ roomCfg.concurrency :=
  ⟨asks_ask _ _ _ _ _ (by decide +kernel), by decide +kernel⟩

theorem witness_disableRoom :
    let s := ask .A 0x13 (w1 1) yard
    s.asks .A .plant 0x13 (w1 1) ∧ (s.room 1).enabled ∧ (∀ b, ¬ ((s.bay b).enabled ∧ (s.bay b).room = 1)) ∧
      (∀ c, ¬ ((s.coil c).enabled ∧ (s.coil c).room = 1)) ∧
      (∀ n, ¬ ((s.probe n).enabled ∧ (s.probe n).kind = .air ∧ (s.probe n).owner = some (.room 1))) ∧
      ∀ l, ¬ ((s.lane l).enabled ∧ (s.lane l).room = 1) :=
  ⟨asks_ask _ _ _ _ _ (by decide +kernel), by decide +kernel⟩

theorem witness_setRoom_change :
    let s := ask .A 0x12 (w1 0 ++ roomCfg.bytes) yard
    s.asks .A .plant 0x12 (w1 0 ++ roomCfg.bytes) ∧ roomCfg.inRange ∧ (s.room 0).enabled ∧ s.defrostingCount 0 ≤ roomCfg.concurrency ∧
      (s.room 0).probeLost = false ∧ roomCfg.nextBand (s.room 0).band (s.room 0).temp ≠ (s.room 0).band :=
  ⟨asks_ask _ _ _ _ _ (by decide +kernel), by decide +kernel⟩

/-! ### Witnesses: bays (O9 to O16) -/

def bayCfg : BayCfg := { grantWindow := 600, sealedLimit := 7200, unsealedLimit := 10, sealLevel := 255, leakLevel := 254, seatTime := 5 }

/-- The yard with bay 0 in a grant state. -/
def yardBay (g : Grant) : State :=
  yard.modBay 0 fun x => { x with grant := g, openedAt := some 40, limitKind := some .sealed, grantedAt := some 40, deadline := some 100 }

/-- R46, R173: the POLL of a bay in GRANTED, at address 1, but for its check bytes. -/
theorem test_poll_body : (yardBay .granted).pollBody 0 = [0x01, 0x01, 0x01] ∧ (yardBay .forced).pollBody 0 = [0x01, 0x01, 0x02] ∧
    yard.pollBody 0 = [0x01, 0x01, 0x04] ∧ yard.pollBody 1 = [0x02, 0x01] := by decide +kernel

/-- Bay 0's node is ONLINE, and its grant state is any that a status meets. -/
theorem witness_BayStatus :
    (∀ g, ∃ e, ((yardBay g).bay 0).node = some e ∧ ((yardBay g).node e).state = .online) ∧ ∀ g, ((yardBay g).bay 0).grant = g := by
  refine ⟨fun g => ⟨0, ?_⟩, fun g => ?_⟩ <;> cases g <;> decide +kernel

/-- A bay open under the SEALED limit that loses its seal: its new deadline lies ahead, or is the present second; the SEAL_LEAK that this raises, and
the one that the close of a leaking FORCED bay ends. -/
theorem witness_BaySealLossAndAlarms :
    let lose (s : State) := takeBayStatus 0 2 0 1 0 s
    let short (g : Grant) := (yardBay g).modBay 0 fun x => { x with shutter := .open_, cfg := { x.cfg with unsealedLimit := 60 } }
    let f := (yardBay .forced).modBay 0 fun x => { x with shutter := .open_, sealState := .leaking }
    let o := { yardBay .overdue with alarms := [{ AlarmEntry.new .bayOverdue 0 50 none none with state := .activeUnacked }] }
    (((short .active).bay 0).limitKind = some .sealed ∧ ((short .active).bay 0).openedAt = some 40 ∧
        ((lose (short .active)).bay 0).sealState = .leaking ∧ ((lose (short .active)).bay 0).deadline = some 100 ∧
        ((lose (short .active)).bay 0).grant = .overdue ∧ ((lose (short .active)).alarm .bayOverdue 0).isSome ∧
        ((lose (short .active)).alarm .sealLeak 0).isSome ∧ (short .active).alarms.length < 63) ∧
      ((o.bay 0).limitKind = some .sealed ∧ (o.bay 0).openedAt = some 40 ∧ o.alarmsOk ∧ ((lose o).bay 0).deadline = some 160 ∧
        ((lose o).bay 0).grant = .active ∧ ((lose o).alarm .bayOverdue 0).map (·.state) = some .clearedUnacked) ∧
      (f.bay 0).sealState = .leaking ∧ (f.bay 0).shutter = .open_ ∧ f.alarmsOk ∧ (f.bay 0).grant = .forced := by
  unfold State.alarmsOk; decide +kernel

/-- The button of a closed bay in NONE has been pressed; the bay that alone names the entry lost, in every grant state, with no cause and with one. -/
theorem witness_BayButtonAndLoss :
    let y := yard.modBay 0 fun x => { x with button := some 255 }
    let m := yard.modBay 0 fun x => { x with causes := { x.causes with master := true } }
    ((y.bay 0).grant = .none ∧ (y.bay 0).causes.any = false ∧ ((takeBayStatus 0 0 0 0 0 y).bay 0).causes.any = false ∧
        (y.bay 0).button = some 255) ∧
      (∀ g, ((yardBay g).bay 0).enabled ∧ ((yardBay g).bay 0).node = some 0 ∧ ((yardBay g).bay 0).causes.any = false ∧
        ∀ c, c ≠ 0 → ((yardBay g).bay c).enabled → ((yardBay g).bay c).node ≠ some 0) ∧
      (m.bay 0).enabled ∧ (m.bay 0).node = some 0 ∧ (m.bay 0).causes.any := by
  refine ⟨by decide +kernel, fun g => ?_, by decide +kernel⟩
  cases g <;> decide +kernel

/-- Bay 0 closes with a READY order of priority 3 for it, while bay 1 waits at priority 0 and the budget admits one bay: bay 1 is granted, and then
bay 0 is requested for the order (R39, R44). With a cause standing, with no order and no press, and with a press, the request is none or LOCAL. -/
theorem witness_BayClose :
    let o : Order := { order1 with dest := .bay 0, priority := 3 }
    let y (os : List Order) : State :=
      refreshLoad 0 (((({ yard with orders := os }.modBay 0 fun x =>
        { x with grant := .active, shutter := .open_, openedAt := some 40, limitKind := some .sealed, button := some 7 }).modBay 1 fun x =>
        { x with enabled := true, shutter := .closed, sealState := .sealed, cond := .sealed, grant := .requested
                 request := some { origin := .dock, priority := 0, linked := [], rank := 1 } })).modLoad 0 fun x => { x with normal := 2 })
    let m := (y [o]).modBay 0 fun x => { x with causes := { x.causes with master := true } }
    let t (s : State) (button : Byte) := takeBayStatus 0 0 200 1 button s
    ((y [o]).ordersOk ∧ ((y [o]).bay 0).grant = .active ∧ ((t (y [o]) 7).bay 1).grant = .granted ∧
        ((t (y [o]) 7).bay 0).request.map (fun q => (q.origin, q.priority, q.linked)) = some (.order, 3, [1]) ∧
        (t (y [o]) 7).queueOf 0 = [0] ∧ ((t (y [o]) 7).bay 0).causes.any = false) ∧
      (m.ordersOk ∧ ((t m 7).bay 0).causes.any ∧ ((t m 7).bay 0).grant = .none) ∧
      ((y []).ordersOk ∧ ((t (y []) 7).bay 0).grant = .none ∧ ((t (y []) 8).bay 0).request.map (·.origin) = some .local_) := by
  unfold State.ordersOk; decide +kernel

theorem witness_setBay_start :
    let s := ask .B 0x20 (w1 31 ++ w1 0 ++ w1 2 ++ bayCfg.bytes) (yard.modNode 2 fun x => { x with kind := some .bay })
    s.asks .B .dock 0x20 (w1 31 ++ w1 0 ++ w1 2 ++ bayCfg.bytes) ∧ bayCfg.inRange ∧ (s.bay 31).enabled = false ∧
      (s.node 2).kind = some .bay ∧ (∀ c, c ≠ 31 → (s.bay c).enabled → (s.bay c).node ≠ some 2) ∧ (s.room 0).enabled :=
  ⟨asks_ask _ _ _ _ _ (by decide +kernel), by decide +kernel⟩

theorem witness_disableBay :
    let s := ask .B 0x21 (w1 0) (yardWith order1)
    s.asks .B .dock 0x21 (w1 0) ∧ (s.bay 0).enabled ∧ (s.bay 0).grant = .none ∧ (s.truck 0).pallets = [] ∧
      ∀ o ∈ s.orders, o.state.unfinished → o.source ≠ .bay 0 ∧ o.dest ≠ .bay 0 :=
  ⟨asks_ask _ _ _ _ _ (by decide +kernel), by decide +kernel⟩

/-- A bay that stays, its running seat timer due with the new seat time, and one that takes a new room. -/
theorem witness_setBay_change :
    let y := yard.modBay 0 fun x => { x with sealState := .seating, seatStart := some 95 }
    let s (r : Nat) := ask .B 0x20 (w1 0 ++ w1 r ++ w1 0 ++ bayCfg.bytes) y
    ((s 0).asks .B .dock 0x20 (w1 0 ++ w1 0 ++ w1 0 ++ bayCfg.bytes) ∧ bayCfg.inRange ∧ (y.bay 0).enabled ∧ (y.node 0).kind = some .bay ∧
        (∀ c, c ≠ 0 → (y.bay c).enabled → (y.bay c).node ≠ some 0) ∧ (y.room 0).enabled ∧
        bayCfg.seatTime ≠ (y.bay 0).cfg.seatTime ∧ 95 + bayCfg.seatTime ≤ y.clock) ∧
      (s 1).asks .B .dock 0x20 (w1 0 ++ w1 1 ++ w1 0 ++ bayCfg.bytes) ∧ (y.room 1).enabled ∧ (y.bay 0).room ≠ 1 ∧ (y.bay 0).grant = .none ∧
        (y.truck 0).pallets = [] ∧ ∀ o ∈ y.orders, o.state.unfinished → o.source ≠ .bay 0 ∧ o.dest ≠ .bay 0 :=
  ⟨⟨asks_ask _ _ _ _ _ (by decide +kernel), by decide +kernel⟩, asks_ask _ _ _ _ _ (by decide +kernel), by decide +kernel⟩

/-- A changed grant window whose deadline is the present second, and one that lies ahead; changed open limits of an ACTIVE and of an OVERDUE bay; a
seat timer run out under the SEALED limit with the shutter open; nothing changed. -/
theorem witness_setBay_deadlines :
    let s (cfg : BayCfg) (x : State) := ask .B 0x20 (w1 0 ++ w1 0 ++ w1 0 ++ cfg.bytes) x
    let old := ((yardBay .active).bay 0).cfg
    let g := (yardBay .granted).modBay 0 fun x => { x with granted := [1] }
    let lapse : BayCfg := { old with grantWindow := 60 }
    let ahead : BayCfg := { old with grantWindow := 61 }
    let due : BayCfg := { old with sealedLimit := 60 }
    let seat : BayCfg := { old with seatTime := 5 }
    let lost := (yardBay .active).modBay 0 fun x => { x with sealState := .seating, seatStart := some 95, shutter := .open_ }
    let od := { yardBay .overdue with alarms := [AlarmEntry.new .bayOverdue 0 50 none none] }
    let after (x : State) : Option (Grant × Option Nat) := match exec (.setBay .B) x with
      | .next t => some ((t.bay 0).grant, (t.bay 0).deadline)
      | _ => none
    ((∀ c ∈ [old, lapse, ahead, due, seat], ∀ x ∈ [g, yardBay .active, lost, od],
        (s c x).asks .B .dock 0x20 (w1 0 ++ w1 0 ++ w1 0 ++ c.bytes) ∧ c.inRange ∧ (x.bay 0).enabled ∧ (x.node 0).kind = some .bay ∧
          (∀ c, c ≠ 0 → (x.bay c).enabled → (x.bay c).node ≠ some 0) ∧ (x.room 0).enabled ∧ (x.bay 0).room = 0 ∧ (x.bay 0).node = some 0) ∧
        od.alarmsOk) ∧
      ((g.bay 0).grantedAt = some 40 ∧ after (s lapse g) = some (.none, none) ∧ after (s ahead g) = some (.granted, some 101) ∧
        after (s old g) = some (.granted, some 100)) ∧
      (((yardBay .active).bay 0).openedAt = some 40 ∧ after (s due (yardBay .active)) = some (.overdue, some 100) ∧
        after (s { old with sealedLimit := 61 } od) = some (.active, some 101) ∧ after (s old (yardBay .active)) = some (.active, some 100)) ∧
      (lost.bay 0).limitKind = some .sealed ∧ after (s seat lost) = some (.active, some 160) := by
  refine ⟨⟨?_, by unfold State.alarmsOk; decide +kernel⟩, by decide +kernel, by decide +kernel, by decide +kernel⟩
  unfold State.asks; decide +kernel

theorem witness_bayRequest :
    let s := ask .B 0x22 (w1 0 ++ w1 3) yard
    let l := ask .B 0x22 (w1 0 ++ w1 3) (yard.modBay 0 fun x => { x with causes := { x.causes with master := true } })
    (s.asks .B .dock 0x22 (w1 0 ++ w1 3) ∧ (s.bay 0).enabled ∧ (s.bay 0).grant = .none ∧ (s.bay 0).causes.any = false) ∧
      l.asks .B .dock 0x22 (w1 0 ++ w1 3) ∧ (l.bay 0).enabled ∧ (l.bay 0).grant = .none ∧ (l.bay 0).causes.any :=
  ⟨⟨asks_ask _ _ _ _ _ (by decide +kernel), by decide +kernel⟩, asks_ask _ _ _ _ _ (by decide +kernel), by decide +kernel⟩

/-- A GRANTED bay that holds a READY order, and a REQUESTED one. -/
theorem witness_bayRelease :
    let s := ask .B 0x23 (w1 0) ((yardWith order1).modBay 0 fun x => { x with grant := .granted, granted := [1] })
    let q := ask .B 0x23 (w1 0) ((yardWith order1).modBay 0 fun x =>
      { x with grant := .requested, request := some { origin := .order, priority := 0, linked := [1], rank := 1 } })
    (s.asks .B .dock 0x23 (w1 0) ∧ (s.bay 0).enabled ∧ (s.bay 0).grant = .granted ∧ 1 ∈ (s.bay 0).granted ∧ s.order 1 = some order1) ∧
      q.asks .B .dock 0x23 (w1 0) ∧ (q.bay 0).enabled ∧ (q.bay 0).grant = .requested :=
  ⟨⟨asks_ask _ _ _ _ _ (by decide +kernel), by decide +kernel⟩, asks_ask _ _ _ _ _ (by decide +kernel), by decide +kernel⟩

theorem witness_bayExtend :
    let s := ask .B 0x24 (w1 0 ++ w2 3600) ((yardBay .active).modBay 0 fun x => { x with extUsed := 2 })
    s.asks .B .dock 0x24 (w1 0 ++ w2 3600) ∧ (s.bay 0).enabled ∧ (s.bay 0).grant = .active ∧ (s.bay 0).causes.any = false ∧
      (s.bay 0).extUsed < 3 ∧ (s.bay 0).openedAt = some 40 :=
  ⟨asks_ask _ _ _ _ _ (by decide +kernel), by decide +kernel⟩

/-- An OVERDUE bay extended to a deadline that lies ahead, and an ACTIVE one whose new deadline is the present second. -/
theorem witness_bayExtend_alarm :
    let o := { ask .B 0x24 (w1 0 ++ w2 1) (yardBay .overdue) with alarms := [AlarmEntry.new .bayOverdue 0 50 none none] }
    let a := ask .B 0x24 (w1 0 ++ w2 1) ((yardBay .active).modBay 0 fun x => { x with cfg := { x.cfg with sealedLimit := 60 }, openedAt := some 39 })
    (o.asks .B .dock 0x24 (w1 0 ++ w2 1) ∧ (o.bay 0).enabled ∧ (o.bay 0).grant = .overdue ∧ (o.bay 0).causes.any = false ∧
        (o.bay 0).extUsed < 3 ∧ (o.bay 0).openedAt = some 40 ∧ o.alarmsOk ∧ o.clock < 40 + (o.bay 0).cfg.sealedLimit) ∧
      a.asks .B .dock 0x24 (w1 0 ++ w2 1) ∧ (a.bay 0).grant = .active ∧ (a.bay 0).extUsed < 3 ∧ (a.bay 0).openedAt = some 39 ∧
        39 + (a.bay 0).cfg.sealedLimit + 1 ≤ a.clock :=
  ⟨⟨⟨rfl, rfl, by decide, rfl⟩, by unfold State.alarmsOk; decide +kernel⟩, asks_ask _ _ _ _ _ (by decide +kernel), by decide +kernel⟩

theorem witness_bayLockout :
    let s := ask .B 0x25 (w1 0 ++ w1 1) (yardBay .granted)
    let t := ask .B 0x25 (w1 0 ++ w1 0) (yardBay .forced)
    (s.asks .B .dock 0x25 (w1 0 ++ w1 true.toNat) ∧ (s.bay 0).enabled ∧ (s.bay 0).causes.any = false ∧ (s.bay 0).grant = .granted) ∧
      t.asks .B .dock 0x25 (w1 0 ++ w1 false.toNat) ∧ (t.bay 0).enabled ∧ (t.bay 0).grant = .forced :=
  ⟨⟨asks_ask _ _ _ _ _ (by decide +kernel), by decide +kernel⟩, asks_ask _ _ _ _ _ (by decide +kernel), by decide +kernel⟩

/-- A closed bay locked out by MASTER alone, an order waiting for it, and none. -/
theorem witness_bayLockout_reRequest :
    let w : Order := { order1 with dest := .bay 0, state := .waiting, reason := some .bay }
    let lock (s : State) : State := s.modBay 0 fun x => { x with causes := { master := true, node := false, room := false } }
    let s := ask .B 0x25 (w1 0 ++ w1 0) (lock (yardWith w))
    let t := ask .B 0x25 (w1 0 ++ w1 0) (lock yard)
    (s.asks .B .dock 0x25 (w1 0 ++ w1 false.toNat) ∧ (s.bay 0).enabled ∧ (s.bay 0).grant = .none ∧ s.ordersOk ∧
        (s.bay 0).causes = { master := true, node := false, room := false } ∧ w ∈ s.orders ∧ w.reason = some .bay) ∧
      t.asks .B .dock 0x25 (w1 0 ++ w1 false.toNat) ∧ (t.bay 0).grant = .none ∧ t.ordersOk ∧ t.orders = [] ∧
        (t.bay 0).causes = { master := true, node := false, room := false } :=
  ⟨⟨asks_ask _ _ _ _ _ (by decide +kernel), by unfold State.ordersOk; decide +kernel⟩, asks_ask _ _ _ _ _ (by decide +kernel),
    by unfold State.ordersOk; decide +kernel⟩

/-- The three timers, each due at the present second. -/
theorem witness_BayTimers :
    let y := yard.modBay 0 fun x => { x with sealState := .seating, seatStart := some 70 }
    (y.hold = none ∧ (y.bay 0).seatStart = some 70 ∧ 70 + (y.bay 0).cfg.seatTime ≤ y.clock) ∧
      (((yardBay .granted).bay 0).grant = .granted ∧ ((yardBay .granted).bay 0).deadline = some 100 ∧ 100 ≤ (yardBay .granted).clock) ∧
      (yardBay .active).hold = none ∧ ((yardBay .active).bay 0).grant = .active ∧ ((yardBay .active).bay 0).deadline = some 100 := by
  decide +kernel

/-- A seat timer due at a bay with an open shutter under the SEALED limit, ACTIVE and then OVERDUE; and at a bay that is not open. -/
theorem witness_SeatTimer :
    let y (g : Grant) (u : Nat) := (yardBay g).modBay 0 fun x =>
      { x with sealState := .seating, seatStart := some 70, shutter := .open_, cfg := { x.cfg with unsealedLimit := u } }
    let t (s : State) := expireSeat 0 s
    (∀ g, ((y g 60).bay 0).seatStart = some 70 ∧ 70 + ((y g 60).bay 0).cfg.seatTime ≤ (y g 60).clock ∧
        ((y g 60).bay 0).limitKind = some .sealed ∧ ((y g 60).bay 0).openedAt = some 40) ∧
      ((t (y .active 60)).bay 0).grant = .overdue ∧ ((t (y .overdue 61)).bay 0).grant = .active ∧ (y .overdue 61).alarmsOk ∧
      ((t (y .active 60)).alarm .sealLeak 0).isSome ∧ ((t (y .none 60)).bay 0).limitKind = some .sealed ∧
      ((t (y .active 60)).bay 0).cond = .leaking ∧ (y .active 60).alarms.length < 63 := by
  refine ⟨fun g => ?_, by unfold State.alarmsOk; decide +kernel⟩
  cases g <;> decide +kernel

/-! ### Witnesses: load and queue (O17 to O20) -/

def heavy : LoadTable := { sealed := 63, seating := 0, leaking := 63, noTruck := 63, fault := 63, lost := 63 }

theorem witness_LoadTableAndBudgets :
    let s := ask .B 0x28 (heavy.weights.flatMap w1) yard
    let t := ask .B 0x29 (w1 7 ++ w1 255 ++ w1 255) yard
    (s.asks .B .dock 0x28 (heavy.weights.flatMap w1) ∧ ∀ n ∈ heavy.weights, n ≤ 63) ∧
      t.asks .B .dock 0x29 (w1 (7 : RoomId).val ++ w1 255 ++ w1 255) :=
  ⟨⟨asks_ask _ _ _ _ _ (by decide +kernel), by decide +kernel⟩, asks_ask _ _ _ _ _ (by decide +kernel)⟩

/-- Bay 0 REQUESTED. -/
def yardQueue : State :=
  yard.modBay 0 fun x => { x with grant := .requested, request := some { origin := .dock, priority := 0, linked := [], rank := 1 } }

theorem witness_QueueOrder : (∀ b, (yardQueue.bay b).grant = .requested → (yardQueue.bay b).request.isSome) ∧
    (yardQueue.bay 0).request = some { origin := .dock, priority := 0, linked := [], rank := 1 } ∧ yardQueue.queueOf 0 = [0] := by decide +kernel

theorem witness_Serving : (yardQueue.load 0).committed = yardQueue.loadSum 0 ∧ (serveQueue 0 yardQueue).queueOf 0 = [] := by decide +kernel

/-- An urgent head in room 0 that a grant would carry above the defrost budget under a SOFT claim, coil 1 PENDING: at a band below ALARM the coil is
granted and the head no longer fits; at ALARM it still fits. A head above its budget does not fit at first. -/
theorem witness_ServingUnderAClaim :
    let y (band : Band) (normal : Nat) : State :=
      ((((({ yard with orders := [{ order1 with leadWarned := true }] }.modBay 0 fun x =>
          { x with grant := .requested, request := some { origin := .order, priority := 0, linked := [1], rank := 1 }, cond := .noTruck }).modCoil 1
        fun x => { x with state := .pending }).modDefrost 0 fun x => { x with waiting := [1], claim := .soft }).modLoad 0
        fun x => { x with normal := normal, claim := .soft }).modRoom 0 fun x => { x with band := band })
    let fits (s : State) : Prop := (s.load 0).committed + s.loadTable.weight (s.bay 0).cond ≤ s.budgetFor 0 0
    let e (band : Band) := evaluateWaiting 0 (y band 24)
    ∀ band ∈ [Band.normal, .alarm], ((y band 24).load 0).committed = (y band 24).loadSum 0 ∧ (y band 24).queueOf 0 = [0] ∧
      fits (y band 24) ∧ (fits (e band) ↔ band = .alarm) ∧ ¬ fits (y band 9) := by decide +kernel

theorem witness_CommittedLoad :
    let s := { ask .B 0x22 (w1 0 ++ w1 3) yard with pending := [.bayRequest .B] }
    (∀ r, (s.load r).committed = s.loadSum r) ∧ ∃ t, step s = .next t :=
  ⟨by decide +kernel, _, rfl⟩

/-! ### Witnesses: coils (O21 to O28) -/

def coilCfg : CoilCfg :=
  { requestLevel := 65534, alarmLevel := 65535, maxDefrost := 60, maxWait := 60, heatTime := 30, heatLevel := -600 }

theorem witness_setCoil_start :
    let s := ask .A 0x30 (w1 15 ++ w1 0 ++ coilCfg.bytes) yard
    s.asks .A .plant 0x30 (w1 15 ++ w1 0 ++ coilCfg.bytes) ∧ s.coilsOk ∧ coilCfg.inRange ∧ coilCfg.requestLevel < coilCfg.alarmLevel ∧
      (s.coil 15).enabled = false ∧ (s.room 0).enabled ∧ (s.coilsOf 0).length < 4 :=
  ⟨asks_ask _ _ _ _ _ (by decide +kernel), by unfold State.coilsOk; decide +kernel⟩

theorem witness_disableCoil :
    let s := ask .A 0x31 (w1 1) yard
    s.asks .A .plant 0x31 (w1 1) ∧ s.coilsOk ∧ (s.coil 1).enabled ∧ s.defrostingCount (s.coil 1).room = 0 ∧
      ∀ n, ¬ ((s.probe n).enabled ∧ (s.probe n).coil = some 1) :=
  ⟨asks_ask _ _ _ _ _ (by decide +kernel), by unfold State.coilsOk; decide +kernel⟩

/-- Coil 0 in DEFROST from 40 on, its heat check open, and coil 1 PENDING. -/
def yardDefrost : State :=
  ((yard.modCoil 0 fun x =>
    { x with state := .defrost, defrostStart := some 40, heatOpen := true, defrostExp := some 100, heatExp := some 100 }).modCoil 1 fun x =>
    { x with state := .pending, waitStart := some 40, waitExp := some 100 }).modDefrost 0 fun x => { x with waiting := [1], claim := .soft }

theorem witness_setCoil_change :
    let s (c : Nat) := ask .A 0x30 (w1 c ++ w1 0 ++ coilCfg.bytes) yardDefrost
    ((s 0).asks .A .plant 0x30 (w1 0 ++ w1 ((s 0).coil 0).room.val ++ coilCfg.bytes) ∧ (s 0).coilsOk ∧ coilCfg.inRange ∧
        coilCfg.requestLevel < coilCfg.alarmLevel ∧ ((s 0).coil 0).enabled ∧ ((s 0).room 0).enabled ∧ ((s 0).coil 0).state = .defrost ∧
        ((s 0).coil 0).heatOpen ∧ ((s 0).coil 0).defrostStart = some 40 ∧ coilCfg.maxDefrost ≠ ((s 0).coil 0).cfg.maxDefrost ∧
        coilCfg.heatTime ≠ ((s 0).coil 0).cfg.heatTime) ∧
      (s 1).asks .A .plant 0x30 (w1 1 ++ w1 ((s 1).coil 1).room.val ++ coilCfg.bytes) ∧ (s 1).coilsOk ∧ ((s 1).coil 1).state = .pending :=
  ⟨⟨asks_ask _ _ _ _ _ (by decide +kernel), by unfold State.coilsOk; decide +kernel⟩, asks_ask _ _ _ _ _ (by decide +kernel),
    by unfold State.coilsOk; decide +kernel⟩

/-- The frost index of coil 0 at its new frost-alarm level and below the old, and at the old and below the new; coil 1's wait, moved to the present
second, and moved behind it with its flag set. -/
theorem witness_setCoil_alarms :
    let low : CoilCfg := { coilCfg with requestLevel := 1, alarmLevel := 2 }
    let y (f : Nat) := yardDefrost.modCoil 0 fun x => { x with frost := f }
    let r := ask .A 0x30 (w1 0 ++ w1 0 ++ low.bytes) (y 2)
    let c := ask .A 0x30 (w1 0 ++ w1 0 ++ coilCfg.bytes) (y 55000)
    let w := ask .A 0x30 (w1 1 ++ w1 0 ++ coilCfg.bytes) yardDefrost
    let d := w.modCoil 1 fun x => { x with delayed := true, waitStart := some 41 }
    let stays (s : State) : Option CoilState := match exec (.setCoil .A) s with
      | .next t => some (t.coil 1).state
      | _ => none
    (r.asks .A .plant 0x30 (w1 0 ++ w1 (r.coil 0).room.val ++ low.bytes) ∧ r.coilsOk ∧ low.inRange ∧ low.requestLevel < low.alarmLevel ∧
        (r.coil 0).enabled ∧ (r.room 0).enabled ∧ ¬ (r.coil 0).cfg.alarmLevel ≤ (r.coil 0).frost ∧ low.alarmLevel ≤ (r.coil 0).frost) ∧
      (c.asks .A .plant 0x30 (w1 0 ++ w1 (c.coil 0).room.val ++ coilCfg.bytes) ∧ c.coilsOk ∧ c.alarmsOk ∧ (c.coil 0).enabled ∧
        (c.room 0).enabled ∧ (c.coil 0).cfg.alarmLevel ≤ (c.coil 0).frost ∧ ¬ coilCfg.alarmLevel ≤ (c.coil 0).frost) ∧
      (w.asks .A .plant 0x30 (w1 1 ++ w1 (w.coil 1).room.val ++ coilCfg.bytes) ∧ w.coilsOk ∧ (w.coil 1).waitStart = some 40 ∧
        40 + coilCfg.maxWait ≤ w.clock ∧ (w.coil 1).delayed = false ∧ w.alarms.length ≤ 32 ∧ stays w = some .pending) ∧
      d.asks .A .plant 0x30 (w1 1 ++ w1 (d.coil 1).room.val ++ coilCfg.bytes) ∧ d.coilsOk ∧ d.alarmsOk ∧
        d.clock < 41 + coilCfg.maxWait ∧ (d.coil 1).delayed = true ∧ stays d = some .pending :=
  ⟨⟨asks_ask _ _ _ _ _ (by decide +kernel), by unfold State.coilsOk; decide +kernel⟩,
    ⟨asks_ask _ _ _ _ _ (by decide +kernel), by unfold State.coilsOk State.alarmsOk; decide +kernel⟩,
    ⟨asks_ask _ _ _ _ _ (by decide +kernel), by unfold State.coilsOk; decide +kernel⟩,
    ⟨rfl, rfl, by decide +kernel, rfl⟩, by unfold State.coilsOk State.alarmsOk; decide +kernel⟩

/-- A coil one unit below its frost-alarm level, and the alarm list with room. -/
theorem witness_FrostAlarm :
    let s := yard.modCoil 0 fun x => { x with frost := 54999 }
    s.alarms.length ≤ 32 ∧ (s.coil 0).frost < (s.coil 0).cfg.alarmLevel ∧
      ((expireFrost s).alarm .frostHigh 0).map (·.value) = some (some 55001) ∧ (expireFrost s).alarm .frostHigh 1 = none := by
  decide +kernel

theorem witness_FrostPeriod :
    let s := ask .A 0x32 (w2 60) yard
    s.asks .A .plant 0x32 (w2 60) ∧ yard.hold = none ∧ yard.frostTimer.start + yard.frostTimer.length ≤ yard.clock ∧
      (yard.coil 0).enabled ∧ (yard.coil 0).state = .running ∧ (yard.room (yard.coil 0).room).enabled :=
  ⟨asks_ask _ _ _ _ _ (by decide +kernel), by decide +kernel⟩

theorem witness_Evaluation : yardDefrost.coilsOk ∧ 1 ∈ (yardDefrost.defrost 0).waiting ∧
    (yardDefrost.load 0).committed ≤ (yardDefrost.load 0).defrost := by unfold State.coilsOk; decide +kernel

theorem witness_CoilsStay :
    let s := { ask .A 0x33 (w1 0) yard with pending := [.defrostRequest .A] }
    s.coilsOk ∧ s.reportsOk ∧ ∃ t, step s = .next t :=
  ⟨by unfold State.coilsOk; decide +kernel, by unfold State.reportsOk; decide +kernel, _, rfl⟩

theorem witness_defrostRequest :
    let s := ask .A 0x33 (w1 0) yard
    s.asks .A .plant 0x33 (w1 (0 : CoilId).val) ∧ s.coilsOk ∧ (s.coil 0).state = .running ∧ (s.defrost (s.coil 0).room).waiting = [] :=
  ⟨asks_ask _ _ _ _ _ (by decide +kernel), by unfold State.coilsOk; decide +kernel⟩

theorem witness_defrostWithdrawAndEnd :
    let s := (ask .A 0x34 (w1 1) yardDefrost).modCoil 1 fun x => { x with delayed := true }
    let t := ask .A 0x35 (w1 0 ++ w1 2) yardDefrost
    let u := ask .A 0x35 (w1 0 ++ w1 0) yardDefrost
    (s.asks .A .plant 0x34 (w1 (1 : CoilId).val) ∧ s.coilsOk ∧ s.alarmsOk ∧ (s.coil 1).state = .pending ∧ (s.coil 1).delayed = true) ∧
      (t.asks .A .plant 0x35 (w1 (0 : CoilId).val ++ w1 2) ∧ t.coilsOk ∧ t.alarmsOk ∧ t.alarms.length ≤ 32 ∧ (t.coil 0).state = .defrost) ∧
      u.asks .A .plant 0x35 (w1 (0 : CoilId).val ++ w1 0) ∧ u.coilsOk ∧ u.alarmsOk ∧ (u.coil 0).state = .defrost :=
  ⟨⟨⟨rfl, rfl, by decide +kernel, rfl⟩, by unfold State.coilsOk State.alarmsOk; decide +kernel⟩,
    ⟨asks_ask _ _ _ _ _ (by decide +kernel), by unfold State.coilsOk State.alarmsOk; decide +kernel⟩, asks_ask _ _ _ _ _ (by decide +kernel),
    by unfold State.coilsOk State.alarmsOk; decide +kernel⟩

/-- The three timers, each due at the present second. -/
theorem witness_CoilTimers :
    let s := yardDefrost
    s.coilsOk ∧ s.hold = none ∧ s.clock = 100 ∧ ((s.coil 1).state = .pending ∧ (s.coil 1).waitExp = some 100) ∧
      (s.coil 0).state = .defrost ∧ (s.coil 0).defrostExp = some 100 ∧ (s.coil 0).heatOpen = true ∧ (s.coil 0).heatExp = some 100 := by
  unfold State.coilsOk; decide +kernel

/-! ### Witnesses: pallets and exposure (O29 to O34) -/

theorem witness_receive :
    let payload := w1 0 ++ w4 99999999 ++ i2 100 ++ w4 4294967295 ++ w4 4294967295
    let s := ask .B 0x40 payload (yardBay .overdue)
    s.asks .B .dock 0x40 payload ∧ (s.bay 0).enabled ∧ (s.bay 0).grant = .overdue ∧ (s.truck 0).pallets.length < 30 ∧
      s.pallets.length < 512 ∧ ∀ x ∈ s.pallets, x.id ≠ 99999999 :=
  ⟨asks_ask _ _ _ _ _ (by decide +kernel), by decide +kernel⟩

/-- A lane of depth 2 with one pallet. -/
theorem witness_admit :
    let payload := w1 0 ++ w4 1 ++ i2 (-400) ++ w4 1 ++ w4 0
    let s := ask .B 0x41 payload (yard.modLane 0 fun x => { x with depth := 2 })
    s.asks .B .dock 0x41 payload ∧ (s.lane 0).enabled ∧ (s.lane 0).pallets.length + (s.lane 0).reservations < (s.lane 0).depth ∧
      s.pallets.length < 512 ∧ ∀ x ∈ s.pallets, x.id ≠ 1 :=
  ⟨asks_ask _ _ _ _ _ (by decide +kernel), by decide +kernel⟩

theorem witness_releaseHold_remove :
    let y := { yard with pallets := [{ pallet7 with held := true, warned := true }] }
    let s := ask .B 0x43 (w4 7) y
    let t := ask .B 0x42 (w4 7) y
    (s.asks .B .dock 0x43 (w4 7) ∧ s.alarmsOk ∧ s.pallet 7 = some { pallet7 with held := true, warned := true }) ∧
      t.asks .B .dock 0x42 (w4 7) ∧ t.alarmsOk ∧ pallet7.place = (Endpoint.lane 0).place ∧
        ∀ o ∈ t.orders, o.state.unfinished → o.mode = .single → o.named ≠ 7 :=
  ⟨⟨asks_ask _ _ _ _ _ (by decide +kernel), by unfold State.alarmsOk; decide +kernel⟩, asks_ask _ _ _ _ _ (by decide +kernel),
    by unfold State.alarmsOk; decide +kernel⟩

/-- The pallet at its budget, in the truck of bay 0. -/
def truck7 : Pallet := { pallet7 with place := .truck 0, exposure := 1000, warned := true, held := true }

/-- The yard with one pallet, in the truck of bay 0. -/
def yardTruckWith (x : Pallet) : State :=
  { (yard.modLane 0 fun x => { x with pallets := [] }).modTruck 0 fun x => { x with pallets := [7] } with pallets := [x] }

def yardTruck : State := yardTruckWith truck7

theorem yardTruckWith_palletsOk (x : Pallet) (hi : x.id = 7) (hx : x.place = .truck 0) : (yardTruckWith x).palletsOk := by
  have hl : ∀ l, ((yardTruckWith x).lane l).pallets = [] := (by decide +kernel : ∀ l, ((yardTruckWith truck7).lane l).pallets = [])
  have ht : ∀ b, ((yardTruckWith x).truck b).pallets = if b = 0 then [7] else [] :=
    (by decide +kernel : ∀ b, ((yardTruckWith truck7).truck b).pallets = if b = 0 then [7] else [])
  have hp : (yardTruckWith x).pallets = [x] := rfl
  refine ⟨by simp [hp], by simp [hp], fun ep id => ?_, fun ep => ?_, fun b => ?_, fun l _ => hl l⟩
  · cases ep with
    | lane l => simp [State.listAt, hl l, hp, Endpoint.place, hx]
    | bay b =>
      simp only [State.listAt, ht b, hp]
      by_cases h : b = 0 <;> simp [h, Endpoint.place, hi, hx, eq_comm]
  · cases ep with
    | lane l => simp [State.listAt, hl l]
    | bay b =>
      simp only [State.listAt, ht b]
      by_cases h : b = 0 <;> simp [h]
  · rw [ht b]
    by_cases h : b = 0 <;> simp [h]

theorem yardTruck_palletsOk : yardTruck.palletsOk := yardTruckWith_palletsOk truck7 rfl rfl

theorem witness_depart :
    let s := ask .B 0x44 (w1 0) yardTruck
    s.asks .B .dock 0x44 (w1 (0 : BayId).val) ∧ s.palletsOk ∧ (s.bay 0).enabled ∧ (s.bay 0).grant = .none ∧ (s.bay 0).shutter = .closed ∧
      (∀ o ∈ s.orders, o.state.unfinished → o.source ≠ .bay 0 ∧ o.dest ≠ .bay 0) ∧
      s.alarmsOk ∧ truck7 ∈ s.pallets ∧ truck7.id ∈ (s.truck 0).pallets ∧ truck7.warned ∧ truck7.held :=
  ⟨asks_ask _ _ _ _ _ (by decide +kernel), yardTruck_palletsOk, by unfold State.alarmsOk; decide +kernel⟩

theorem witness_lanes :
    let s := ask .B 0x45 (w1 63 ++ w1 0 ++ w1 12 ++ w1 1) yard
    let t := ask .B 0x45 (w1 0 ++ w1 0 ++ w1 1 ++ w1 0) yard
    let u := ask .B 0x45 (w1 1 ++ w1 1 ++ w1 1 ++ w1 0) yard
    let v := ask .B 0x46 (w1 1) yard
    (s.asks .B .dock 0x45 (w1 63 ++ w1 0 ++ w1 12 ++ w1 true.toNat) ∧ (s.lane 63).enabled = false ∧ (s.room 0).enabled) ∧
      (t.asks .B .dock 0x45 (w1 0 ++ w1 0 ++ w1 1 ++ w1 false.toNat) ∧ (t.lane 0).enabled ∧ (t.lane 0).room = 0 ∧
        (t.lane 0).pallets.length + (t.lane 0).reservations ≤ 1) ∧
      (u.asks .B .dock 0x45 (w1 1 ++ w1 1 ++ w1 1 ++ w1 false.toNat) ∧ (u.lane 1).enabled ∧ (u.lane 1).pallets = [] ∧
        (u.lane 1).reservations = 0 ∧ (u.room 1).enabled) ∧
      v.asks .B .dock 0x46 (w1 1) ∧ (v.lane 1).enabled ∧ (v.lane 1).pallets = [] ∧ (v.lane 1).reservations = 0 ∧
        ∀ o ∈ v.orders, o.state.unfinished → o.source ≠ .lane 1 ∧ o.dest ≠ .lane 1 :=
  ⟨⟨asks_ask _ _ _ _ _ (by decide +kernel), by decide +kernel⟩, ⟨asks_ask _ _ _ _ _ (by decide +kernel), by decide +kernel⟩,
    ⟨asks_ask _ _ _ _ _ (by decide +kernel), by decide +kernel⟩, asks_ask _ _ _ _ _ (by decide +kernel), by decide +kernel⟩

theorem witness_PalletsStay :
    let s := { yardTruck with pending := [.exposurePeriodExpiry] }
    s.palletsOk ∧ s.marksOk ∧ ∃ t, step s = .next t :=
  ⟨yardTruck_palletsOk, by unfold State.marksOk; decide +kernel, _, rfl⟩

theorem witness_setExposurePeriod :
    (ask .B 0x4C (w2 60) yard).asks .B .dock 0x4C (w2 60) ∧ (ask .B 0x4C (w2 61) yard).asks .B .dock 0x4C (w2 61) :=
  ⟨asks_ask _ _ _ _ _ (by decide +kernel), asks_ask _ _ _ _ _ (by decide +kernel)⟩

theorem witness_ExposureExpiry : yard.hold = none ∧ yard.expTimer.start + yard.expTimer.inForce ≤ yard.clock ∧ pallet7 ∈ yard.pallets := by
  decide +kernel

/-- A pallet that an expiry brings to three quarters of its budget, and one that it brings to its budget; the first is not HELD. -/
theorem witness_ExposureMarks :
    let s (e : Nat) := (yardTruckWith { truck7 with exposure := e, warned := false, held := false }).modBay 0 fun x => { x with grant := .active }
    let t (e : Nat) := expireExposure (s e)
    (∀ e, (s e).palletsOk) ∧ (s 550).alarms = [] ∧ ((t 550).alarm .palletWarn 7).map (·.value) = some (some 750) ∧
      (t 550).alarm .palletHeld 7 = none ∧ ((t 800).alarm .palletHeld 7).map (·.value) = some (some 1000) ∧
      ((t 800).alarm .palletWarn 7).map (·.value) = some (some 1000) := by
  refine ⟨fun e => ?_, by decide +kernel⟩
  exact yardTruckWith_palletsOk { truck7 with exposure := e, warned := false, held := false } rfl rfl

/-! ### Witnesses: orders (O35 to O43) -/

theorem witness_EvaluationOfOrders : order1.state ≠ .carrying ∧ yard.evaluated .ready order1 = order1 := by decide +kernel

/-- RUN at its greatest count into a free record, SINGLE, LANE. -/
theorem witness_orderCreate :
    let run := w1 1 ++ (Endpoint.lane 0).bytes ++ (Endpoint.bay 0).bytes ++ w1 1 ++ w1 3 ++ w4 0 ++ w1 0 ++ w1 30
    let single := w1 0 ++ (Endpoint.lane 0).bytes ++ (Endpoint.lane 1).bytes ++ w1 0 ++ w1 0 ++ w4 7 ++ w1 0 ++ w1 0
    let lane := w1 2 ++ (Endpoint.lane 0).bytes ++ (Endpoint.lane 1).bytes ++ w1 0 ++ w1 0 ++ w4 0 ++ w1 1 ++ w1 0
    ((ask .B 0x50 run yard).asks .B .dock 0x50 run ∧ (ask .B 0x50 single yard).asks .B .dock 0x50 single ∧
        (ask .B 0x50 lane yard).asks .B .dock 0x50 lane) ∧
      yard.ordersOk ∧ yard.endpointEnabled (.lane 0) ∧ yard.endpointEnabled (.lane 1) ∧ yard.endpointEnabled (.bay 0) ∧
      yard.sourceOf (.lane 0) = none ∧ 7 ∈ yard.listAt (.lane 0) ∧ yard.orders.length < 32 :=
  ⟨⟨asks_ask _ _ _ _ _ (by decide +kernel), asks_ask _ _ _ _ _ (by decide +kernel), asks_ask _ _ _ _ _ (by decide +kernel)⟩,
    by unfold State.ordersOk; decide +kernel⟩

/-- An order that waits with reason BAY, created while its bay is in NONE, REQUESTED, GRANTED and FORCED, and locked out. -/
theorem witness_orderFiling :
    let run := w1 1 ++ (Endpoint.lane 0).bytes ++ (Endpoint.bay 0).bytes ++ w1 1 ++ w1 3 ++ w4 0 ++ w1 0 ++ w1 30
    let full := yardQueue.modLoad 0 fun x => { x with normal := 0 }
    let locked := yard.modBay 0 fun x => { x with causes := { x.causes with master := true } }
    let after (x : State) : Option (Option (OrderState × Option WaitReason) × Grant × Option Request × List Nat) :=
      match exec (.orderCreate .B) (ask .B 0x50 run x) with
      | .next t => some ((t.order 1).map fun o => (o.state, o.reason), (t.bay 0).grant, (t.bay 0).request, (t.bay 0).granted)
      | _ => none
    let waits : Option (OrderState × Option WaitReason) := some (.waiting, some .bay)
    (∀ x ∈ [yard, full, yardBay .granted, yardBay .forced, locked], x.ordersOk) ∧ after yard = some (waits, .granted, none, [1]) ∧
      after full = some (waits, .requested, some { origin := .dock, priority := 3, linked := [1], rank := 1 }, []) ∧
      after (yardBay .granted) = some (waits, .granted, none, [1]) ∧ after (yardBay .forced) = some (waits, .forced, none, []) ∧
      after locked = some (waits, .none, none, []) := by
  refine ⟨fun x hx => ?_, by decide +kernel, by decide +kernel, by decide +kernel, by decide +kernel, by decide +kernel⟩
  have h : x.orders = [] := by revert x; decide +kernel
  simp [State.ordersOk, h]

/-- 32 ended orders, number 65,535 the first to have ended. -/
def yardFull : State :=
  { yard with orders := (List.range 32).map fun i =>
      { order1 with num := 65535 - i, state := .done, endedAt := some (10 + i) } }

theorem witness_orderCreate_reuse :
    yardFull.ordersOk ∧ yardFull.orders.length = 32 ∧ ∃ v ∈ yardFull.orders, v.state.unfinished = false ∧
      ∀ w ∈ yardFull.orders, w.state.unfinished = false →
        v.endedAt.getD 0 < w.endedAt.getD 0 ∨ (v.endedAt = w.endedAt ∧ v.num ≤ w.num) := by
  unfold State.ordersOk; decide +kernel

def exception1 : Order := { order1 with state := .exception, cause := some .released }
def carrying1 : Order := { order1 with state := .carrying, carried := some 7 }
def done1 : Order := { order1 with state := .done, done := 2, endedAt := some 90 }
def dispatched1 : Order := { order1 with state := .dispatched }

theorem witness_orderCancelAndClear :
    let s := ask .B 0x51 (w2 1) (yardWith exception1)
    let t := ask .B 0x51 (w2 1) (yardWith carrying1)
    let u := ask .B 0x53 (w2 1) (yardWith done1)
    (s.asks .B .dock 0x51 (w2 1) ∧ s.ordersOk ∧ s.order 1 = some exception1) ∧
      (t.asks .B .dock 0x51 (w2 1) ∧ t.ordersOk ∧ t.order 1 = some carrying1) ∧
      u.asks .B .dock 0x53 (w2 1) ∧ u.ordersOk ∧ u.order 1 = some done1 :=
  ⟨⟨asks_ask _ _ _ _ _ (by decide +kernel), by unfold State.ordersOk; decide +kernel⟩,
    ⟨asks_ask _ _ _ _ _ (by decide +kernel), by unfold State.ordersOk; decide +kernel⟩, asks_ask _ _ _ _ _ (by decide +kernel),
    by unfold State.ordersOk; decide +kernel⟩

theorem witness_resumeAndAbandon :
    let s := ask .B 0x52 (w2 1) (yardWith exception1)
    let t := ask .C 0x5B (w2 1) (yardWith dispatched1)
    (s.asks .B .dock 0x52 (w2 1) ∧ s.ordersOk ∧ s.order 1 = some exception1) ∧
      (t.asks .C .fleet 0x5B (w2 1) ∧ t.ordersOk ∧ t.order 1 = some dispatched1) ∧
      (let o : Order := { exception1 with dest := .bay 0 }
       let u := ask .B 0x52 (w2 1) (yardWith o)
       u.asks .B .dock 0x52 (w2 1) ∧ u.ordersOk ∧ u.order 1 = some o ∧ (u.evaluated .ready { o with cause := none }).state = .waiting ∧
        (u.evaluated .ready { o with cause := none }).reason = some .bay) :=
  ⟨⟨asks_ask _ _ _ _ _ (by decide +kernel), by unfold State.ordersOk; decide +kernel⟩,
    ⟨asks_ask _ _ _ _ _ (by decide +kernel), by unfold State.ordersOk; decide +kernel⟩, asks_ask _ _ _ _ _ (by decide +kernel),
    by unfold State.ordersOk; decide +kernel⟩

/-- Two READY orders of equal priority and time, and none. -/
theorem witness_fetch :
    let s := ask .C 0x58 [] { yard with orders := [{ order1 with num := 2 }, order1] }
    let t := ask .C 0x58 [] (yardWith done1)
    (s.asks .C .fleet 0x58 [] ∧ s.ordersOk ∧ order1 ∈ s.orders ∧ ∀ w ∈ s.orders, w.state = .ready → w ≠ order1 →
        w.priority < order1.priority ∨
          (w.priority = order1.priority ∧
            (order1.createdAt < w.createdAt ∨ (order1.createdAt = w.createdAt ∧ order1.num < w.num)))) ∧
      t.asks .C .fleet 0x58 [] ∧ t.ordersOk ∧ ∀ o ∈ t.orders, o.state ≠ .ready :=
  ⟨⟨asks_ask _ _ _ _ _ (by decide +kernel), by unfold State.ordersOk; decide +kernel⟩, asks_ask _ _ _ _ _ (by decide +kernel),
    by unfold State.ordersOk; decide +kernel⟩

/-- The lead, another pallet, and a lead that is HELD. -/
theorem witness_pick :
    let s := ask .C 0x59 (w2 1 ++ w4 7) (yardWith dispatched1)
    let t := ask .C 0x59 (w2 1 ++ w4 8) (yardWith dispatched1)
    let u := ask .C 0x59 (w2 1 ++ w4 7) { yardWith dispatched1 with pallets := [{ pallet7 with held := true }] }
    (s.asks .C .fleet 0x59 (w2 1 ++ w4 7) ∧ s.ordersOk ∧ s.order 1 = some dispatched1 ∧ (s.listAt dispatched1.source).head? = some 7 ∧
        s.pallet 7 = some pallet7 ∧ pallet7.place = dispatched1.source.place ∧ (s.lane 1).enabled ∧
        (s.lane 1).pallets.length + (s.lane 1).reservations < (s.lane 1).depth) ∧
      (t.asks .C .fleet 0x59 (w2 1 ++ w4 8) ∧ t.ordersOk ∧ t.order 1 = some dispatched1 ∧
        (t.listAt dispatched1.source).head? ≠ some 8) ∧
      u.asks .C .fleet 0x59 (w2 1 ++ w4 7) ∧ u.ordersOk ∧ u.order 1 = some dispatched1 ∧
        u.pallet 7 = some { pallet7 with held := true } ∧ (u.lane 1).quarantine = false :=
  ⟨⟨asks_ask _ _ _ _ _ (by decide +kernel), by unfold State.ordersOk; decide +kernel⟩,
    ⟨asks_ask _ _ _ _ _ (by decide +kernel), by unfold State.ordersOk; decide +kernel⟩, asks_ask _ _ _ _ _ (by decide +kernel),
    by unfold State.ordersOk; decide +kernel⟩

/-- The yard with its pallet carried by order `o`, whose number is 1. -/
def yardCarry (o : Order) : State :=
  { yard.modLane 0 fun x => { x with pallets := [] } with orders := [o], pallets := [{ pallet7 with place := .carried 1 }] }

def toBay : Order := { carrying1 with dest := .bay 0 }

/-- A cancel pends, the number is reached, the order goes on. -/
theorem witness_drop_outcomes : ∀ o ∈ [{ carrying1 with cancelPending := true }, { carrying1 with requested := 1 }, carrying1],
    let s := ask .C 0x5A (w2 1 ++ w4 7 ++ o.dest.bytes) ((yardCarry o).modLane 1 fun x => { x with reservations := 1 })
    s.ordersOk ∧ s.order 1 = some o ∧ o.carried = some 7 ∧ s.pallet 7 = some { pallet7 with place := .carried 1 } ∧ (s.lane 1).enabled := by
  unfold State.ordersOk; decide +kernel

/-- Drops at a destination lane, at an open bay, and at a bay that is not open. -/
theorem witness_drop_at_destination :
    let s := ask .C 0x5A (w2 1 ++ w4 7 ++ carrying1.dest.bytes) ((yardCarry carrying1).modLane 1 fun x => { x with reservations := 1 })
    let t := ask .C 0x5A (w2 1 ++ w4 7 ++ toBay.dest.bytes) ((yardCarry toBay).modBay 0 fun x => { x with grant := .active })
    let u := ask .C 0x5A (w2 1 ++ w4 7 ++ toBay.dest.bytes) (yardCarry toBay)
    (s.asks .C .fleet 0x5A (w2 1 ++ w4 7 ++ carrying1.dest.bytes) ∧ s.ordersOk ∧ s.order 1 = some carrying1 ∧
        s.pallet 7 = some { pallet7 with place := .carried 1 } ∧ (s.lane 1).enabled) ∧
      (t.asks .C .fleet 0x5A (w2 1 ++ w4 7 ++ toBay.dest.bytes) ∧ t.ordersOk ∧ t.order 1 = some toBay ∧ (t.bay 0).enabled ∧
        (t.bay 0).grant = .active ∧ (t.truck 0).pallets.length < 30) ∧
      u.asks .C .fleet 0x5A (w2 1 ++ w4 7 ++ toBay.dest.bytes) ∧ u.ordersOk ∧ u.order 1 = some toBay ∧ (u.bay 0).grant ≠ .active ∧
        (u.bay 0).grant ≠ .overdue :=
  ⟨⟨asks_ask _ _ _ _ _ (by decide +kernel), by unfold State.ordersOk; decide +kernel⟩,
    ⟨asks_ask _ _ _ _ _ (by decide +kernel), by unfold State.ordersOk; decide +kernel⟩, asks_ask _ _ _ _ _ (by decide +kernel),
    by unfold State.ordersOk; decide +kernel⟩

theorem witness_drop_elsewhere :
    let s := ask .C 0x5A (w2 1 ++ w4 7 ++ w1 0 ++ w1 0) (yardCarry carrying1)
    let t := ask .C 0x5A (w2 1 ++ w4 7 ++ w1 1 ++ w1 31) (yardCarry carrying1)
    (s.asks .C .fleet 0x5A (w2 1 ++ w4 7 ++ w1 0 ++ w1 (0 : LaneId).val) ∧ s.ordersOk ∧ s.order 1 = some carrying1 ∧
        carrying1.dest ≠ .lane 0 ∧ (s.lane 0).enabled ∧ (s.lane 0).pallets.length + (s.lane 0).reservations < (s.lane 0).depth) ∧
      t.asks .C .fleet 0x5A (w2 1 ++ w4 7 ++ w1 1 ++ w1 (31 : BayId).val) ∧ t.ordersOk ∧ t.order 1 = some carrying1 ∧
        carrying1.dest ≠ .bay 31 :=
  ⟨⟨asks_ask _ _ _ _ _ (by decide +kernel), by unfold State.ordersOk; decide +kernel⟩, asks_ask _ _ _ _ _ (by decide +kernel),
    by unfold State.ordersOk; decide +kernel⟩

theorem witness_OrdersStay :
    let s := { yardCarry carrying1 with pending := [.dockClockTick], lanes := (yardCarry carrying1).lanes.set 1 { Lane.reset with enabled := true, reservations := 1 } }
    s.ordersOk ∧ s.lanesOk ∧ ∃ t, step s = .next t :=
  ⟨by unfold State.ordersOk; decide +kernel, by unfold State.lanesOk; decide +kernel, _, rfl⟩

/-- A READY order at an open bay. -/
theorem witness_ReadyStays :
    let s := { (yardWith { order1 with dest := .bay 0 }).modBay 0 fun x => { x with grant := .overdue } with pending := [.dockClockTick] }
    s.ordersOk ∧ s.readyOk ∧ ∃ t, step s = .next t :=
  ⟨by unfold State.ordersOk; decide +kernel, by
    intro o h
    obtain rfl : o = { order1 with dest := .bay 0 } := by simpa [yardWith, State.modBay] using h
    rintro - b (h | h)
    · simp [order1] at h
    · obtain rfl : 0 = b := by simpa using h
      exact .inr (by decide +kernel), _, rfl⟩

/-! ### Witnesses: alarms and flags (O44 to O47) -/

def entry (k : AlarmKind) (n : Nat) (st : AlarmState) : AlarmEntry :=
  { kind := k, subject := n, state := st, first := 0, last := 0, repeats := 0, value := none, holder := none }

/-- A full list: 63 entries in ACTIVE_UNACKED and one more at its end. -/
def yardAlarms (e : AlarmEntry) : State :=
  { yard with alarms := ((List.range 63).map fun i => entry .palletWarn (i + 1) .activeUnacked) ++ [e] }

/-- A known alarm; a full list with a cleared entry, with an acknowledged one of a lower severity, and with neither. -/
theorem witness_Raise :
    let c := entry .roomWarn 0 .clearedUnacked
    let a := entry .roomWarn 0 .activeAcked
    let u := entry .roomWarn 0 .activeUnacked
    (yardAlarms u).alarmsOk ∧ ((∃ e ∈ (yardAlarms u).alarms, e.kind = .roomWarn ∧ e.subject = 0) ∧
        ¬ ∃ e ∈ (yardAlarms u).alarms, e.kind = .frostHigh ∧ e.subject = 0) ∧
      (yardAlarms c).alarms.length = 64 ∧ (∃ e ∈ (yardAlarms c).alarms, e.state = .clearedUnacked) ∧
      ((∃ e ∈ (yardAlarms a).alarms, e.state = .activeAcked ∧ e.kind.severity < AlarmKind.frostHigh.severity) ∧
        ∀ e ∈ (yardAlarms a).alarms, e.state ≠ .clearedUnacked) ∧
      ∀ e ∈ (yardAlarms u).alarms, e.state ≠ .clearedUnacked ∧ e.state ≠ .activeAcked := by
  unfold State.alarmsOk; decide +kernel

theorem witness_ClearAndAck :
    let s := ask .A 0x60 (w1 0 ++ w4 0) (yardAlarms (entry .roomWarn 0 .clearedUnacked))
    let l := (yardAlarms { entry .nodeLost 47 .activeUnacked with holder := some .dock })
    let t := ask .B 0x60 (w1 5 ++ w4 47) l
    (s.asks .A .plant 0x60 (w1 AlarmKind.roomWarn.code ++ w4 0) ∧ s.alarmsOk ∧
        s.alarm .roomWarn 0 = some (entry .roomWarn 0 .clearedUnacked) ∧ Role.plant ∈ AlarmKind.roomWarn.routes) ∧
      t.asks .B .dock 0x60 (w1 AlarmKind.nodeLost.code ++ w4 47) ∧ t.alarmsOk ∧
        t.alarm .nodeLost 47 = some { entry .nodeLost 47 .activeUnacked with holder := some .dock } :=
  ⟨⟨asks_ask _ _ _ _ _ (by decide +kernel), by unfold State.alarmsOk; decide +kernel⟩, asks_ask _ _ _ _ _ (by decide +kernel),
    by unfold State.alarmsOk; decide +kernel⟩

theorem witness_AlarmsStay :
    let s := { yardAlarms (entry .roomWarn 0 .activeAcked) with pending := [.dockClockTick] }
    s.alarmsOk ∧ ∃ t, step s = .next t :=
  ⟨by unfold State.alarmsOk; decide +kernel, _, rfl⟩

theorem witness_SummaryAndMask :
    (ask .C 0x62 [] yard).asks .C ((ask .C 0x62 [] yard).port .C).role 0x62 [] ∧
      (ask .A 0x63 [0] yard).asks .A ((ask .A 0x63 [0] yard).port .A).role 0x63 [0] ∧ yard.hold = none :=
  ⟨asks_ask _ _ _ _ _ (by decide +kernel), asks_ask _ _ _ _ _ (by decide +kernel), rfl⟩

/-! ### Witnesses: the sensor line (O49 to O51) -/

/-- A probe node enabled at the last entry and the last address, and one disabled; a bay node disabled; a free entry freed. -/
theorem witness_NodeEntries :
    let s := ask .A 0x70 (w1 47 ++ w1 63 ++ w1 0) yard
    let t := ask .A 0x70 (w1 1 ++ w1 2 ++ w1 1) yard
    let u := ask .B 0x71 (w1 0 ++ w1 1 ++ w1 1) yard
    let v := ask .A 0x70 (w1 47 ++ w1 0 ++ w1 2) yard
    (s.asks .A .plant 0x70 (w1 (47 : EntryId).val ++ w1 63 ++ w1 0) ∧ (s.node 47).kind = none ∧
        (∀ d, d ≠ 47 → (s.node d).kind ≠ none → (s.node d).address ≠ some 63) ∧
        ∀ n, ¬ ((s.probe n).enabled ∧ (s.probe n).node = some 47)) ∧
      (t.asks .A .plant 0x70 (w1 (1 : EntryId).val ++ w1 2 ++ w1 1) ∧ (t.node 1).kind = some .probe ∧ (t.node 1).address = some 2 ∧
        (∀ d, d ≠ 1 → (t.node d).kind ≠ none → (t.node d).address ≠ some 2) ∧ (t.node 1).enabled ∧ (t.probe 0).node = some 1) ∧
      (u.asks .B .dock 0x71 (w1 (0 : EntryId).val ++ w1 1 ++ w1 1) ∧ (u.node 0).kind = some .bay ∧ (u.node 0).address = some 1 ∧
        (∀ d, d ≠ 0 → (u.node d).kind ≠ none → (u.node d).address ≠ some 1) ∧ (u.node 0).enabled ∧ (u.bay 0).node = some 0 ∧
        ∀ c, c ≠ 0 → (u.bay c).enabled → (u.bay c).node ≠ some 0) ∧
      v.asks .A .plant 0x70 (w1 (47 : EntryId).val ++ w1 0 ++ w1 2) ∧ (v.node 47).kind = none ∧
        ∀ n, ¬ ((v.probe n).enabled ∧ (v.probe n).node = some 47) :=
  ⟨⟨asks_ask _ _ _ _ _ (by decide +kernel), by decide +kernel⟩, ⟨asks_ask _ _ _ _ _ (by decide +kernel), by decide +kernel⟩,
    ⟨asks_ask _ _ _ _ _ (by decide +kernel), by decide +kernel⟩, asks_ask _ _ _ _ _ (by decide +kernel), by decide +kernel⟩

/-- The yard in an exchange with the probe node. -/
def yardPoll (ph : Phase) : State :=
  { yard with line := { yard.line with exchange := some { entry := 1, rate := .r38400, poll := yard.pollFrame 1, phase := ph } } }

theorem witness_Line :
    let s := ask .A 0x72 (w1 LineRate.r115200.code ++ w1 50 ++ w1 15 ++ w1 100) yard
    let t := ask .A 0x73 [] yard
    s.asks .A .plant 0x72 (w1 LineRate.r115200.code ++ w1 50 ++ w1 15 ++ w1 100) ∧ t.asks .A .plant 0x73 [] ∧
      (yard.hold = none ∧ yard.line.exchange = none ∧ (yard.node 0).enabled ∧ ∀ d, d < 0 → (yard.node d).enabled = false) ∧
      (yardPoll .sending).hold = none ∧
        (yardPoll .sending).line.exchange = some { entry := 1, rate := .r38400, poll := yard.pollFrame 1, phase := .sending } :=
  ⟨asks_ask _ _ _ _ _ (by decide +kernel), asks_ask _ _ _ _ _ (by decide +kernel), by decide +kernel⟩

/-- A BAY entry that one bay names, in any grant state, and a PROBE entry, which none names. -/
theorem witness_Poll :
    (∀ g, ((yardBay g).node 0).address = some 1 ∧ ((yardBay g).node 0).kind = some .bay ∧ ((yardBay g).bay 0).enabled ∧
        ((yardBay g).bay 0).node = some 0 ∧ ∀ c, c ≠ 0 → ((yardBay g).bay c).enabled → ((yardBay g).bay c).node ≠ some 0) ∧
      (yard.node 1).address = some 2 ∧ (yard.node 1).kind = some .probe ∧ ∀ b, ¬ ((yard.bay b).enabled ∧ (yard.bay b).node = some 1) := by
  refine ⟨fun g => ?_, by decide +kernel⟩
  cases g <;> decide +kernel

/-- The samples of some bytes, sixteen a bit, a stop bit after each. -/
def samplesOf (l : List Byte) : List Bool :=
  true :: l.flatMap fun b => (false :: ([0, 1, 2, 3, 4, 5, 6, 7].map b.getLsbD) ++ [true]).flatMap (List.replicate 16 ·)

/-- A whole good STATUS of the probe node: its address byte, kind, all four channels valid at 2,048, and its check bytes. -/
def goodReplyBytes : List Byte :=
  let body := [0x82, 0x02, 0x0F, 0x08, 0x00, 0x08, 0x00, 0x08, 0x00, 0x08, 0x00]
  body ++ w2 (crcOf body).toNat

/-- A window with a good reply, with a bad one (its kind byte is not STATUS), and with silence. -/
theorem witness_Reply :
    let s := yardPoll (.window 10)
    (s.hold = none ∧ s.line.exchange.map (·.phase) = some (.window 10) ∧ (s.node 1).kind = some .probe ∧ (s.node 1).address = some 2) ∧
      receive (samplesOf goodReplyBytes) = goodReplyBytes ∧ goodReplyBytes.length = 13 ∧
      (goodReplyBytes.getD 0 0 = BitVec.ofNat 8 (128 + 2) ∧ goodReplyBytes.getD 1 0 = 2 ∧ crcOf goodReplyBytes = 0) ∧
      (receive (samplesOf (List.replicate 13 0x01))).length = 13 ∧ (receive (samplesOf [])).length < 13 := by decide +kernel

/-- A BAY node's exchange with a good STATUS; a PROBE and a BAY node one miss from LOST; a LOST node; a coil in DEFROST. -/
theorem witness_ReplyOutcomes :
    let body : List Byte := [0x81, 0x02, 2, 120, 1, 0]
    let bytes := body ++ w2 (crcOf body).toNat
    let bayPoll : State :=
      { yard with line := { yard.line with exchange := some { entry := 0, rate := .r38400, poll := yard.pollFrame 0, phase := .window 10 } } }
    let near (e : EntryId) (s : State) : State := s.modNode e fun x => { x with misses := 2 }
    let lost := (yardPoll (.window 10)).modNode 1 fun x => { x with state := .lost }
    let defrosting := (yardPoll (.window 10)).modCoil 0 fun x => { x with state := .defrost }
    (bayPoll.hold = none ∧ (bayPoll.node 0).kind = some .bay ∧ (bayPoll.node 0).address = some 1 ∧ receive (samplesOf bytes) = bytes ∧
        bytes.length = 8 ∧ crcOf bytes = 0 ∧ (bayPoll.bay 0).enabled ∧ (bayPoll.bay 0).node = some 0 ∧
        ∀ c, c ≠ 0 → (bayPoll.bay c).enabled → (bayPoll.bay c).node ≠ some 0) ∧
      (yard.line.missLimit ≤ ((near 1 (yardPoll (.window 10))).node 1).misses + 1 ∧ ((near 1 yard).node 1).state = .online) ∧
      (yard.line.missLimit ≤ ((near 0 bayPoll).node 0).misses + 1 ∧ ((near 0 bayPoll).node 0).state = .online) ∧
      ((lost.node 1).state = .lost ∧ lost.alarmsOk) ∧ defrosting.coilsOk ∧ (defrosting.coil 0).state = .defrost := by
  unfold State.alarmsOk State.coilsOk; decide +kernel

/-! ### Witnesses: ports, resets, clock (O53 to O60) -/

theorem witness_Tick : yard.hold = none ∧ ∀ straps, Instr.dockClockTick ≠ .fullResetComplete straps := ⟨rfl, by simp⟩

theorem witness_FullReset : { yard with hold := some ResetCause.supplyDip }.hold ≠ none ∧
    { yard with hold := some ResetCause.supplyDip }.hold = some .supplyDip ∧ yard.hold = none := by decide

/-- A malformed frame, a framed request of the wrong role, one whose length fits no form, an unlisted code framed and not. -/
theorem witness_Requests :
    let s := yard.modPort .A fun c => { c with request := some [0x20, 5] }
    let t := ask .A 0x21 (w1 0) yard
    let u := ask .A 0x01 [] yard
    let v := yard.modPort .A fun c => { c with request := some [0x01, 251] }
    let w := ask .A 0x12 (List.replicate 13 0) yard
    (s.hold = none ∧ (s.port .A).request = some [0x20, 5] ∧ (Instr.setBay .A).request = some (.A, 0x20)) ∧
      ((t.port .A).request = some [0x21, 1, 0] ∧ (Instr.disableBay .A).request = some (.A, 0x21) ∧ catalogue 0x21 = some [.dock] ∧
        (t.port .A).role ∉ [Role.dock]) ∧
      ((w.port .A).request = some (0x12 :: 13 :: List.replicate 13 0) ∧ (Instr.setRoom .A).request = some (.A, 0x12) ∧
        catalogue 0x12 = some [.plant] ∧ (w.port .A).role = .plant ∧ 13 ∉ requestLengths 0x12) ∧
      ((u.port .A).request = some [0x01, 0] ∧ catalogue 0x01 = none) ∧ (v.port .A).request = some [0x01, 251] := by decide +kernel

/-- A refused request, and a request on a MONITOR port. -/
theorem witness_RefusalsAndMonitors :
    let s := ask .A 0x14 (w1 8) yard
    let m := ask .A 0x10 [] (withRoleA .monitor yard)
    ((Instr.readRoom .A).request = some (.A, 0x14) ∧ (s.port .A).request = some (BitVec.ofNat 8 0x14 :: [1, 8]) ∧
        ∃ t r, exec (.readRoom .A) s = .next t ∧ (t.port .A).response = some r ∧ r.status ≠ .ok) ∧
      (Instr.setProbe .A).request = some (.A, 0x10) ∧ (m.port .A).role = .monitor ∧ ∃ t, exec (.setProbe .A) m = .next t :=
  ⟨⟨rfl, rfl, _, _, rfl, rfl, by decide⟩, rfl, rfl, _, rfl⟩

/-- The numbers at the ends of their ranges. -/
theorem witness_Reads :
    let role (p : PortId) : Role := (yard.port p).role
    (ask .A 0x14 (w1 7) yard).asks .A (role .A) 0x14 (w1 (7 : RoomId).val) ∧ (ask .B 0x26 (w1 31) yard).asks .B (role .B) 0x26 (w1 (31 : BayId).val) ∧
      (ask .C 0x2A (w1 7) yard).asks .C (role .C) 0x2A (w1 (7 : RoomId).val) ∧
      (ask .A 0x36 (w1 15) yard).asks .A (role .A) 0x36 (w1 (15 : CoilId).val) ∧
      (ask .A 0x47 (w1 63) yard).asks .A (role .A) 0x47 (w1 (63 : LaneId).val) ∧
      ((ask .A 0x48 (w1 0 ++ w4 7) yard).asks .A (role .A) 0x48 (w1 0 ++ w4 pallet7.id) ∧ yard.pallet 7 = some pallet7) ∧
      (ask .A 0x48 (w1 1 ++ (Endpoint.bay 31).bytes ++ w1 29) yard).asks .A (role .A) 0x48 (w1 1 ++ (Endpoint.bay 31).bytes ++ w1 29) ∧
      (ask .A 0x4D [] yard).asks .A (role .A) 0x4D [] ∧
      ((ask .A 0x54 (w2 1) (yardWith order1)).asks .A (role .A) 0x54 (w2 order1.num) ∧ (yardWith order1).order 1 = some order1) ∧
      (ask .A 0x54 (w2 0) yard).asks .A (role .A) 0x54 (w2 0) ∧ (ask .A 0x61 (w1 63) yard).asks .A (role .A) 0x61 (w1 63) ∧
      (ask .A 0x74 (w1 47) yard).asks .A (role .A) 0x74 (w1 (47 : EntryId).val) ∧ (ask .A 0x7E [] yard).asks .A (role .A) 0x7E [] := by
  refine ⟨?_, ?_, ?_, ?_, ?_, ⟨?_, by decide +kernel⟩, ?_, ?_, ⟨?_, by decide +kernel⟩, ?_, ?_, ?_, ?_⟩ <;>
    exact asks_ask _ _ _ _ _ (by decide +kernel)

/-- The yard with a selection in progress on port A, and a response held. -/
def yardSelected (sel : Selection) : State :=
  yard.modPort .A fun c => { c with selection := some sel, response := some (.bare .ok) }

theorem witness_Selections : (yard.hold = none ∧ (yard.port .A).selection = none) ∧
    ∀ sel, ((yardSelected sel).port .A).selection = some sel ∧ ([true] : List Bool).length < 8 := ⟨⟨rfl, rfl⟩, fun _ => ⟨rfl, by decide⟩⟩

theorem witness_PortReset :
    let s := ask .C 0x7F [] (yardWith dispatched1)
    let t := ask .A 0x7F [] yard
    let u := (yardWith dispatched1).modPort .C fun c => { c with selection := some { busy := false, pulsed := false } }
    (s.asks .C (s.port .C).role 0x7F [] ∧ s.ordersOk ∧ (s.port .C).role = .fleet ∧ dispatched1 ∈ s.orders) ∧
      (t.asks .A (t.port .A).role 0x7F [] ∧ t.ordersOk ∧ (t.port .A).role ≠ .fleet) ∧
      u.ordersOk ∧ u.hold = none ∧ (u.port .C).selection = some { busy := false, pulsed := false } :=
  ⟨⟨asks_ask _ _ _ _ _ (by decide +kernel), by unfold State.ordersOk; decide +kernel⟩,
    ⟨asks_ask _ _ _ _ _ (by decide +kernel), by unfold State.ordersOk; decide +kernel⟩, by unfold State.ordersOk; decide +kernel⟩

/-! ### Witnesses: lockout causes, temperature alarms, flags (O3, O8, O9, O15, O21, O26, O27, O36, O38, O49) -/

/-- The yard with an order for bay 0 in the state `st`. -/
def yardFor (st : OrderState) : State :=
  yardWith { order1 with dest := .bay 0, state := st, reason := if st = .waiting then some .bay else none }

/-- Room 0 about to be updated to `v`, F absent, its band and its recorded alarm as given, the alarm in the list. -/
def warmTo (v : Int) (band : Band) (a : RoomAlarm) (k : AlarmKind) (s : State) : State :=
  { (s.modProbe 0 fun x => { x with value := some v }).modRoom 0 fun x => { x with filter := none, band := band, tempAlarm := a } with
    alarms := [entry k 0 .activeUnacked] }

/-- Room 0 enters CRITICAL while bay 0 is GRANTED, and while it is REQUESTED, for a DISPATCHED order; it leaves CRITICAL while an order waits for
bay 0 in NONE, and while none does. -/
theorem witness_BandLockouts :
    let hot (g : Grant) : State := (warmTo 500 .normal .none .palletWarn (yardFor .dispatched)).modBay 0 fun x =>
      { x with grant := g, granted := if g = .granted then [1] else []
               request := if g = .requested then some { origin := .order, priority := 0, linked := [1], rank := 1 } else none }
    let cool (s : State) : State := (warmTo (-180) .critical .critical .roomCritical s).modBay 0 fun x =>
      { x with causes := { x.causes with room := true } }
    let t (s : State) := updateRoom 0 s
    (∀ g ∈ [Grant.granted, .requested], seen (hot g) 0 ∧ ((hot g).bay 0).grant = g ∧ ((hot g).bay 0).causes.any = false ∧
        ((t (hot g)).bay 0).causes.any ∧ ((t (hot g)).bay 0).grant = .none ∧ (hot g).orders.Pairwise (fun o w => o.num ≠ w.num) ∧
        ((t (hot g)).order 1).map (fun o => (o.state, o.reason)) = some (.waiting, some .bay)) ∧
      (let c := cool (yardFor .waiting)
       seen c 0 ∧ (c.bay 0).grant = .none ∧ (c.bay 0).causes.any ∧ ((t c).bay 0).causes.any = false ∧ c.ordersOk ∧
        ((t c).bay 0).grant = .granted ∧ ((t c).bay 0).granted = [1]) ∧
      ((t (cool yard)).bay 0).causes.any = false ∧ ((t (cool yard)).bay 0).grant = .none ∧ (cool yard).ordersOk := by
  unfold State.ordersOk seen; decide +kernel

/-- The states of orders in which the requests are filed again are ready. -/
theorem witness_readyOk : (yardFor .waiting).readyOk := by
  have w : ∀ o ∈ (yardFor .waiting).orders, o.state = .waiting ∧ o.reason = some .bay := by decide +kernel
  rintro o h (e | e | e)
  · exact absurd ((w o h).1.symm.trans e) (by decide)
  · exact absurd ((w o h).1.symm.trans e) (by decide)
  · exact absurd (w o h).2 e.2

def riseYard : State := warmTo 500 .warn .warn .roomWarn yard

def mergeYard : State :=
  warmTo 500 .alarm .warming .defrostWarming
    ((yardDefrost.modRoom 0 fun x => { x with defrosting := true }).modLoad 0 fun x => { x with coils := 1, claim := .soft })

def kindsOf (s : State) : List (AlarmKind × AlarmState × Nat) := s.alarms.map fun e => (e.kind, e.state, e.repeats)

/-- Room 0 rises from WARN, ROOM_WARN recorded, to CRITICAL; it stays in NORMAL. -/
theorem witness_BandAlarms :
    let stay := warmTo (-180) .normal .none .palletWarn yard
    (seen riseYard 0 ∧ riseYard.alarmsOk ∧
        kindsOf (updateRoom 0 riseYard) = [(.roomWarn, .clearedUnacked, 0), (.roomCritical, .activeUnacked, 0)]) ∧
      seen stay 0 ∧ ((updateRoom 0 stay).room 0).band = .normal ∧ kindsOf (updateRoom 0 stay) = kindsOf stay := by
  unfold seen State.alarmsOk; decide +kernel

/-- Room 0 rises from ALARM to CRITICAL under a defrost, DEFROST_WARMING recorded. -/
theorem witness_WarmingMerges : seen mergeYard 0 ∧ kindsOf (updateRoom 0 mergeYard) = [(.defrostWarming, .activeUnacked, 1)] := by
  unfold seen; decide +kernel

theorem witness_BandAlarms_in_order : (riseYard.coilsOk ∧ riseYard.reportsOk) ∧ mergeYard.coilsOk ∧ mergeYard.reportsOk := by
  refine ⟨⟨?_, ?_⟩, ?_, ?_⟩ <;> (try unfold State.coilsOk) <;> (try unfold State.reportsOk) <;> decide +kernel

/-- Settings that make −180 tenths CRITICAL, and settings that make it NORMAL. -/
def lowCfg : RoomCfg := { roomCfg with warn := -300, alarm := -250, critical := -200, hysteresis := 0, concurrency := 1 }

def highCfg : RoomCfg := { lowCfg with warn := 100, alarm := 200, critical := 300 }

/-- SET_ROOM that raises the band to CRITICAL, with a REQUESTED bay and ROOM_WARN recorded, and one that lets it fall to NORMAL. -/
theorem witness_setRoom_band :
    let s := ask .A 0x12 (w1 0 ++ lowCfg.bytes) ((warmTo 0 .warn .warn .roomWarn (yardFor .ready)).modBay 0 fun x =>
      { x with grant := .requested, request := some { origin := .order, priority := 0, linked := [1], rank := 1 } })
    let c := ask .A 0x12 (w1 0 ++ highCfg.bytes) ((warmTo 0 .critical .critical .roomCritical (yardFor .waiting)).modBay 0 fun x =>
      { x with causes := { x.causes with room := true } })
    let after (x : State) := match exec (.setRoom .A) x with
      | .next t => some ((t.room 0).band, (t.bay 0).grant, t.alarms.map fun e => (e.kind, e.state))
      | _ => none
    (s.asks .A .plant 0x12 (w1 0 ++ lowCfg.bytes) ∧ lowCfg.inRange ∧ (s.room 0).enabled ∧ s.defrostingCount 0 ≤ lowCfg.concurrency ∧
        (s.room 0).probeLost = false ∧ s.coilsOk ∧ s.reportsOk ∧ s.alarmsOk ∧
        after s = some (.critical, .none, [(.roomWarn, .clearedUnacked), (.roomCritical, .activeUnacked)])) ∧
      c.asks .A .plant 0x12 (w1 0 ++ highCfg.bytes) ∧ highCfg.inRange ∧ highCfg.reportFalls ∧ c.ordersOk ∧ c.coilsOk ∧ c.reportsOk ∧
        after c = some (.normal, .granted, [(.roomCritical, .clearedUnacked)]) := by
  and_intros <;> decide +kernel

/-- Bay 0, GRANTED or REQUESTED for an order, reports FAULT; it reports CLOSED; and in NONE, locked out by NODE alone, it reports CLOSED again while an
order waits for it, and while none does, its button pressed and not. -/
theorem witness_BayStatusCauses :
    let y (g : Grant) : State := (yardFor .ready).modBay 0 fun x =>
      { x with grant := g, granted := if g = .granted then [1] else [], grantedAt := some 40, deadline := some 700
               request := if g = .requested then some { origin := .order, priority := 0, linked := [1], rank := 1 } else none }
    let n (s : State) : State := s.modBay 0 fun x => { x with shutter := .fault, causes := { x.causes with node := true }, button := some 7 }
    let t (code button : Byte) (s : State) := takeBayStatus 0 code 200 1 button s
    (∀ g ∈ [Grant.granted, .requested], ((y g).bay 0).causes.any = false ∧ ((t 3 0 (y g)).bay 0).causes.any ∧
        ((t 3 0 (y g)).bay 0).grant = .none ∧ ((t 3 0 (y g)).order 1).map (fun o => (o.state, o.reason)) = some (.waiting, some .bay) ∧
        ((t 0 0 (y g)).bay 0).causes.any = false ∧ ((t 0 0 (y g)).bay 0).grant = g ∧ ((t 0 0 (y g)).bay 0).deadline = some 700) ∧
      (let w := n (yardFor .waiting)
       (w.bay 0).grant = .none ∧ (w.bay 0).causes.any ∧ w.ordersOk ∧ ((t 0 7 w).bay 0).causes.any = false ∧
        ((t 0 7 w).bay 0).request.map (fun q => (q.origin, q.linked)) = some (.order, [1])) ∧
      ((n yard).ordersOk ∧ ((t 0 7 (n yard)).bay 0).grant = .none ∧ ((t 0 8 (n yard)).bay 0).request.map (·.origin) = some .local_) ∧
      ((t 3 8 (n yard)).bay 0).grant = .none := by
  unfold State.ordersOk; decide +kernel

/-- BAY_LOCKOUT of a bay whose unused grant a READY order holds, and of one REQUESTED for it. -/
theorem witness_bayLockout_orders :
    ∀ g ∈ [Grant.granted, .requested],
      let s := ask .B 0x25 (w1 0 ++ w1 1) ((yardFor .ready).modBay 0 fun x =>
        { x with grant := g, granted := if g = .granted then [1] else []
                 request := if g = .requested then some { origin := .order, priority := 0, linked := [1], rank := 1 } else none })
      (s.hold = none ∧ (s.port .B).role = .dock ∧ (s.port .B).request = some (0x25 :: 2 :: (w1 0 ++ w1 1))) ∧ (s.bay 0).enabled ∧
        (s.bay 0).causes.any = false ∧ (s.bay 0).grant = g ∧ s.orders.Pairwise (fun o w => o.num ≠ w.num) ∧
        s.order 1 = some { order1 with dest := .bay 0 } := by
  decide +kernel

/-- DISABLE_COIL of a PENDING coil that has delayed and whose frost stands at its frost-alarm level, both alarms listed. -/
theorem witness_disableCoil_alarms :
    let s := ask .A 0x31 (w1 1)
      { ((yard.modCoil 1 fun x => { x with state := .pending, delayed := true, frost := x.cfg.alarmLevel }).modDefrost 0 fun x =>
          { x with waiting := [1] }) with alarms := [entry .frostHigh 1 .activeUnacked, entry .defrostDelayed 1 .activeUnacked] }
    s.asks .A .plant 0x31 (w1 1) ∧ s.coilsOk ∧ s.alarmsOk ∧ (s.coil 1).enabled ∧ s.defrostingCount (s.coil 1).room = 0 ∧
      (∀ n, ¬ ((s.probe n).enabled ∧ (s.probe n).coil = some 1)) ∧ (s.coil 1).cfg.alarmLevel ≤ (s.coil 1).frost ∧
      ((disableCoil 1 s).alarms.map (·.state)) = [.clearedUnacked, .clearedUnacked] :=
  ⟨asks_ask _ _ _ _ _ (by decide +kernel), by unfold State.coilsOk State.alarmsOk; decide +kernel⟩

/-- At ALARM, ROOM_ALARM recorded, a coil with frost above its level is granted, the room's first; the room's only defrost ends there; and one of two
goes on. -/
theorem witness_defrostAlarms :
    let high (s : State) : State := s.modCoil 0 fun x => { x with frost := 65535 }
    let first := ask .A 0x33 (w1 0) (warmTo 0 .alarm .alarm .roomAlarm (high yard))
    let one : State := ((yard.modCoil 0 fun x => { x with state := .defrost, defrostStart := some 40 }).modLoad 0 fun x =>
      { x with coils := 1 }).modRoom 0 fun x => { x with defrosting := true, cfg := { x.cfg with concurrency := 2 } }
    let last := ask .A 0x35 (w1 0 ++ w1 2) (warmTo 0 .alarm .warming .defrostWarming one)
    let two := ask .A 0x35 (w1 0 ++ w1 2) (warmTo 0 .alarm .warming .defrostWarming
      (((one.modCoil 1 fun x => { x with state := .overrun }).modCoil 2 fun x => { x with enabled := true, state := .running }).modLoad 0 fun x =>
        { x with coils := 2 }))
    let kinds (r : Host.Outcome State Fault Refusal) := match r with
      | .next t => t.alarms.map fun e => (e.kind, e.state)
      | _ => []
    (first.asks .A .plant 0x33 (w1 (0 : CoilId).val) ∧ first.coilsOk ∧ first.reportsOk ∧ first.alarmsOk ∧ (first.coil 0).state = .running ∧
        kinds (exec (.defrostRequest .A) first) = [(.roomAlarm, .clearedUnacked), (.defrostWarming, .activeUnacked)]) ∧
      (last.asks .A .plant 0x35 (w1 (0 : CoilId).val ++ w1 2) ∧ last.coilsOk ∧ last.reportsOk ∧ last.alarmsOk ∧
        kinds (exec (.defrostEnd .A) last) = [(.defrostWarming, .clearedUnacked), (.roomAlarm, .activeUnacked)]) ∧
      two.asks .A .plant 0x35 (w1 (0 : CoilId).val ++ w1 2) ∧ two.coilsOk ∧ two.reportsOk ∧ 1 < two.defrostingCount 0 ∧
        kinds (exec (.defrostEnd .A) two) = [(.defrostWarming, .activeUnacked)] := by
  and_intros <;> decide +kernel

/-- An order created, and one resumed, that is READY at once, so that FLEET has ORDERS; one that returns to EXCEPTION with another cause. -/
theorem witness_orderFlags :
    let run := w1 1 ++ (Endpoint.lane 0).bytes ++ (Endpoint.lane 1).bytes ++ w1 1 ++ w1 3 ++ w4 0 ++ w1 0 ++ w1 30
    let flags (r : Host.Outcome State Fault Refusal) := match r with
      | .next t => some ((t.order 1).map (·.state), Flag.orders.bit &&& (t.port .B).flags, Flag.orders.bit &&& (t.port .C).flags)
      | _ => none
    let gone := { yardWith exception1 with lanes := yard.lanes.set 0 { Lane.reset with enabled := true }, pallets := [] }
    let bit := Flag.orders.bit
    flags (exec (.orderCreate .B) (ask .B 0x50 run yard)) = some (some .ready, bit, bit) ∧
      flags (exec (.orderResume .B) (ask .B 0x52 (w2 1) (yardWith exception1))) = some (some .ready, bit, bit) ∧
      (gone.evaluated .ready { exception1 with cause := none }).state = .exception ∧
      (gone.evaluated .ready { exception1 with cause := none }).cause ≠ exception1.cause := by decide +kernel

/-- NODE_LOST stands for a LOST entry that is disabled, freed, and written with a new address. -/
theorem witness_NodeLostCleared :
    let y : State := { yard.modNode 5 fun _ => { kind := some .probe, address := some 9, enabled := true, state := .lost, misses := 3, bad := 0
                                                 payload := none } with
                       alarms := [{ entry .nodeLost 5 .activeUnacked with holder := some .plant }] }
    (y.node 5).enabled ∧ (y.node 5).kind = some .probe ∧ y.alarmsOk ∧ (y.node 5).address ≠ some 10 ∧
      ∀ q ∈ [(9, 1), (9, 2), (10, 0)], (setNode .probe 5 q.1 q.2 y).1 = .ok ∧
        ((setNode .probe 5 q.1 q.2 y).2.alarms.map (·.state)) = [.clearedUnacked] := by
  unfold State.alarmsOk; decide +kernel

end Sys2Proof.Tests
end

/-! Calibration of a probe's readings (R3): rounding with halves away from zero, the clamp, and the record after a good reading. -/

namespace Sys2Proof.Machine

/-- Rounding away from zero treats a number and its opposite alike. -/
theorem roundAway_neg {num : Int} (den : Int) (hnum : 0 < num) : roundAway (-num) den = -roundAway num den := by
  have hneg : ¬ 0 ≤ -num := by omega
  rw [roundAway, if_neg hneg, roundAway, if_pos hnum.le, neg_neg]

/-- From zero up, rounding errs by less than a half downward and by at most a half upward. -/
theorem roundAway_bounds {num den : Int} (hden : 0 < den) (hnum : 0 ≤ num) :
    -den < 2 * (roundAway num den * den - num) ∧ 2 * (roundAway num den * den - num) ≤ den := by
  have hpos : 0 < 2 * den := by omega
  have hle := Int.ediv_mul_le (2 * num + den) hpos.ne'
  have hlt := Int.lt_ediv_add_one_mul_self (2 * num + den) hpos
  rw [roundAway, if_pos hnum]
  constructor <;> linarith

/-- What R3 asks of a rounded quotient: it is nearest, and where two are it lies farther from zero than the exact one. -/
def NearestAway (num den q : Int) : Prop :=
  2 * |q * den - num| ≤ den ∧ (2 * |q * den - num| = den → |num| < |q * den|)

/-- `NearestAway` is symmetric about zero. -/
theorem NearestAway.neg {num den q : Int} (h : NearestAway num den q) : NearestAway (-num) den (-q) := by
  have herr : |(-q) * den - -num| = |q * den - num| := by rw [← abs_neg]; congr 1; ring
  rwa [NearestAway, herr, abs_neg, neg_mul, abs_neg]

theorem roundAway_nearestAway_of_nonneg {num den : Int} (hden : 0 < den) (hnum : 0 ≤ num) :
    NearestAway num den (roundAway num den) := by
  obtain ⟨hlow, hhigh⟩ := roundAway_bounds hden hnum
  refine ⟨by grind, fun htie => ?_⟩
  have hup : num < roundAway num den * den := by grind
  rwa [abs_of_nonneg hnum, abs_of_pos (hnum.trans_lt hup)]

theorem roundAway_nearestAway (num : Int) {den : Int} (hden : 0 < den) : NearestAway num den (roundAway num den) := by
  obtain hnum | hnum := le_or_gt 0 num
  · exact roundAway_nearestAway_of_nonneg hden hnum
  · have hopp : 0 < -num := by omega
    have hneg := (roundAway_nearestAway_of_nonneg hden hopp.le).neg
    rwa [← roundAway_neg den hopp, neg_neg] at hneg

/-- The clamp, by cases: below −600, above +500, and in range. -/
theorem clampTemp_eq (t : Int) : clampTemp t = if t < -600 then -600 else if 500 < t then 500 else t := by
  simp only [clampTemp, Config.tempMin, Config.tempMax]
  split_ifs <;> omega

/-- The clamp moves a temperature exactly when it is out of range. -/
theorem clampTemp_ne_iff (t : Int) : clampTemp t ≠ t ↔ t < -600 ∨ 500 < t := by
  rw [clampTemp_eq]
  split_ifs <;> omega

/-- A good reading of a calibrated probe, with its clamp written out. -/
theorem Probe.takeGood_of_cal {x : Probe} {c : Calib} (count : Nat) (hcal : x.cal = some c) :
    x.takeGood count =
      { x with cond := .ok, clamped := decide (c.line count < -600 ∨ 500 < c.line count)
               value := some (if c.line count < -600 then -600 else if 500 < c.line count then 500 else c.line count) } := by
  simp only [Probe.takeGood, hcal, clampTemp_ne_iff, ← clampTemp_eq]

/-- Settles O1: the quotient is `roundAway`, which is nearest with halves away from zero, and the clamp is written out by its cases. -/
theorem goodReadingIsConvertedOnTheLine : Obligations.GoodReadingIsConvertedOnTheLine := by
  unfold Obligations.GoodReadingIsConvertedOnTheLine
  intro x cal count hcal hcounts
  have hden : 0 < (cal.hiCount : Int) - cal.loCount := by omega
  obtain ⟨hnearest, haway⟩ := roundAway_nearestAway (((count : Int) - cal.loCount) * (cal.hiRef - cal.loRef)) hden
  exact ⟨_, hnearest, haway, Probe.takeGood_of_cal count hcal⟩

end Sys2Proof.Machine

/-! Raising an alarm (R138, R141): one equation for each of its four outcomes, and the entry that a full list gives up. -/

namespace Sys2Proof.Machine

@[simp] theorem AlarmEntry.isFor_iff {k : AlarmKind} {n : Nat} {e : AlarmEntry} : e.isFor k n = true ↔ e.kind = k ∧ e.subject = n := by
  simp [AlarmEntry.isFor]

/-- No entry is found for a kind and subject exactly where the list holds none for them. -/
theorem alarm_eq_none_iff {s : State} {k : AlarmKind} {n : Nat} :
    s.alarm k n = none ↔ ¬ ∃ e ∈ s.alarms, e.kind = k ∧ e.subject = n := by
  simp [State.alarm, List.find?_eq_none]

/-- Two states that agree beyond the alarm list differ only in the list, the overflow count and the ports. -/
theorem eq_of_beyondAlarms {s t : State} (h : t.beyondAlarms = s.beyondAlarms) :
    t = { s with alarms := t.alarms, overflow := t.overflow, ports := t.ports } :=
  congrArg (fun u : State => { u with alarms := t.alarms, overflow := t.overflow, ports := t.ports }) h

/-! ### The entry a full list gives up -/

/-- The oldest entry in CLEARED_UNACKED goes first. -/
theorem alarmVictim_of_cleared (severity : Nat) {pre post : List AlarmEntry} {e : AlarmEntry} (he : e.state = .clearedUnacked)
    (hpre : ∀ d ∈ pre, d.state ≠ .clearedUnacked) : alarmVictim severity (pre ++ e :: post) = some e := by
  have hfind : (pre ++ e :: post).find? (fun d => d.state == .clearedUnacked) = some e :=
    List.find?_eq_some_iff_append.mpr ⟨by simpa using he, pre, post, rfl, by simpa using hpre⟩
  simp only [alarmVictim, hfind]

/-- With no entry in CLEARED_UNACKED, the victim is sought among those in ACTIVE_ACKED of a lower severity. -/
theorem alarmVictim_of_none_cleared (severity : Nat) {l : List AlarmEntry} (hl : ∀ d ∈ l, d.state ≠ .clearedUnacked) :
    alarmVictim severity l = l.find? fun d => d.state == .activeAcked && decide (d.kind.severity < severity) := by
  have hfind : l.find? (fun d => d.state == .clearedUnacked) = none := by simpa using hl
  simp only [alarmVictim, hfind]

/-- With no entry in CLEARED_UNACKED, the oldest in ACTIVE_ACKED of a lower severity goes. -/
theorem alarmVictim_of_weak {severity : Nat} {pre post : List AlarmEntry} {e : AlarmEntry}
    (he : e.state = .activeAcked ∧ e.kind.severity < severity)
    (hpre : ∀ d ∈ pre, ¬ (d.state = .activeAcked ∧ d.kind.severity < severity))
    (hl : ∀ d ∈ pre ++ e :: post, d.state ≠ .clearedUnacked) : alarmVictim severity (pre ++ e :: post) = some e := by
  rw [alarmVictim_of_none_cleared severity hl]
  exact List.find?_eq_some_iff_append.mpr ⟨by simpa using he, pre, post, rfl, by simpa [imp_iff_not_or] using hpre⟩

/-- Where no entry qualifies, the list gives up none. -/
theorem alarmVictim_eq_none {severity : Nat} {l : List AlarmEntry}
    (hl : ∀ d ∈ l, d.state ≠ .clearedUnacked ∧ ¬ (d.state = .activeAcked ∧ d.kind.severity < severity)) :
    alarmVictim severity l = none := by
  rw [alarmVictim_of_none_cleared severity fun d hd => (hl d hd).1]
  simpa using fun d hd => (hl d hd).2

/-- Giving up an entry takes out that entry and no other: it is the only one for its kind and subject (R137). -/
theorem eraseP_isFor_of_alarmsOk {s : State} (hok : s.alarmsOk) {pre post : List AlarmEntry} {e : AlarmEntry}
    (hs : s.alarms = pre ++ e :: post) : s.alarms.eraseP (·.isFor e.kind e.subject) = pre ++ post := by
  obtain ⟨-, hone⟩ := hok
  rw [hs, List.pairwise_append] at hone
  obtain ⟨-, -, hpre⟩ := hone
  have hnot : ∀ d ∈ pre, ¬ d.isFor e.kind e.subject = true := fun d hd => by simpa using hpre d hd e (by simp)
  rw [hs, List.eraseP_append_right _ hnot, List.eraseP_cons_of_pos (by simp)]

/-! ### The four outcomes of a raise -/

section
variable {s : State} {k : AlarmKind} {n : Nat} (v : Option Int) (h : Option Role)

/-- R138: where the list holds an entry for the kind and subject, the raise merges into it. -/
theorem raiseHeld_merge (hk : ∃ e ∈ s.alarms, e.kind = k ∧ e.subject = n) :
    raiseHeld k n v h s = setFlag (AlarmEntry.new k n s.clock v h).roles .alarms
      { s with alarms := s.alarms.map fun x => if x.isFor k n then x.merge s.clock v h else x } := by
  obtain ⟨x, hx⟩ := Option.ne_none_iff_exists'.mp (mt alarm_eq_none_iff.mp (not_not_intro hk))
  simp only [raiseHeld, hx]

variable (hk : ¬ ∃ e ∈ s.alarms, e.kind = k ∧ e.subject = n)
include hk

/-- R138: where the list has a place, a new entry goes to its end. -/
theorem raiseHeld_enter (hl : s.alarms.length < 64) :
    raiseHeld k n v h s = setFlag (AlarmEntry.new k n s.clock v h).roles .alarms
      { s with alarms := s.alarms ++ [AlarmEntry.new k n s.clock v h] } := by
  simp only [raiseHeld, alarm_eq_none_iff.mpr hk, Config.alarmEntries, hl, if_true]

/-- R141: a full list takes the new entry in place of the one it gives up. -/
theorem raiseHeld_replace (hl : s.alarms.length = 64) {w : AlarmEntry} (hw : alarmVictim k.severity s.alarms = some w) :
    raiseHeld k n v h s = setFlag (AlarmEntry.new k n s.clock v h).roles .alarms (setFlag w.roles .alarms
      { s with alarms := s.alarms.eraseP (·.isFor w.kind w.subject) ++ [AlarmEntry.new k n s.clock v h] }) := by
  simp only [raiseHeld, alarm_eq_none_iff.mpr hk, Config.alarmEntries, hl, lt_irrefl, if_false, hw]

/-- R141: where a full list gives up no entry, the raise is counted as an overflow, and ALARMS set on every port. -/
theorem raiseHeld_overflow (hl : s.alarms.length = 64) (hw : alarmVictim k.severity s.alarms = none) :
    raiseHeld k n v h s = setFlagAll .alarms { s with overflow := satAdd 65535 s.overflow 1 } := by
  simp only [raiseHeld, alarm_eq_none_iff.mpr hk, Config.alarmEntries, hl, lt_irrefl, if_false, hw]

/-- A full list in order gives up the victim in its place, and the new entry goes to the end. -/
theorem raiseHeld_replace_alarms (hok : s.alarmsOk) (hl : s.alarms.length = 64) {pre post : List AlarmEntry} {w : AlarmEntry}
    (hs : s.alarms = pre ++ w :: post) (hw : alarmVictim k.severity (pre ++ w :: post) = some w) :
    (raiseHeld k n v h s).overflow = s.overflow ∧
      (raiseHeld k n v h s).alarms = pre ++ post ++ [AlarmEntry.new k n s.clock v h] := by
  rw [raiseHeld_replace v h hk hl (hs ▸ hw), ← eraseP_isFor_of_alarmsOk hok hs]
  exact ⟨rfl, rfl⟩

end

/-- A flag set on every port stands on each (R141, R144). -/
theorem setFlagAll_flags (s : State) (f : Flag) (q : PortId) : ((setFlagAll f s).port q).flags &&& f.bit = f.bit := by
  rw [setFlagAll_port, PortCtx.setFlag]
  exact BitVec.eq_of_getLsbD_eq fun i _ => by simpa using Or.inr

/-- Settles O44: each outcome by its own equation of `raiseHeld`, the victim of a full list found by `alarmVictim`. -/
theorem raiseMergesOrEntersOrOverflows : Obligations.RaiseMergesOrEntersOrOverflows := by
  unfold Obligations.RaiseMergesOrEntersOrOverflows
  intro s k n v h hok
  refine ⟨eq_of_beyondAlarms (raiseHeld_beyondAlarms ..), raiseHeld_unsettled .., fun hknown => ?merge, fun hnew hroom => ?enter,
    fun hnew hfull => ⟨fun pre e post hs he hpre => ?cleared, fun pre e post hs he hpre hnone => ?weak, fun hnone => ?overflow⟩⟩
  case merge =>
    rw [raiseHeld_merge v h hknown]
    refine ⟨rfl, List.map_congr_left fun e _ => ?_⟩
    simp only [AlarmEntry.isFor_iff]
    rfl
  case enter =>
    rw [raiseHeld_enter v h hnew hroom]
    exact ⟨rfl, rfl⟩
  case cleared => exact raiseHeld_replace_alarms v h hnew hok hfull hs (alarmVictim_of_cleared _ he hpre)
  case weak => exact raiseHeld_replace_alarms v h hnew hok hfull hs (alarmVictim_of_weak he hpre (hs ▸ hnone))
  case overflow =>
    rw [raiseHeld_overflow v h hnew hfull (alarmVictim_eq_none hnone)]
    exact ⟨rfl, rfl, setFlagAll_flags _ .alarms⟩

end Sys2Proof.Machine

/-! The summary flags: READ_SUMMARY, SET_ATTENTION_MASK and the ATN# pin (R143, R145, R146). -/

namespace Sys2Proof.Machine

/-- Every role is among the roles of a request open to all (section 10.2.1). -/
theorem allRoles_contains (r : Role) : allRoles.contains r = true := by cases r <;> rfl

/-- The empty payload, read by the form without values (R171). -/
theorem parse0_nil : parse0 [] = some () := rfl

/-- A payload of one byte, read by the form of one byte (R171). -/
theorem parse1_singleton (m : Byte) : parse1 [m] = some m.toNat := rfl

/-- The part of the alarm list a role sees, as R143 words it. -/
theorem alarmView_eq_filter (r : Role) (l : List AlarmEntry) :
    alarmView r l = l.filter fun e => decide (r = .monitor ∨ r ∈ e.roles) := by
  simp only [alarmView, Bool.decide_or, List.contains_eq_mem, beq_eq_decide]

/-- The bytes of READ_SUMMARY, with the port's view and its ACTIVE_UNACKED part written out (R145). -/
theorem summaryBytes_eq (s : State) (p : PortId) :
    s.summaryBytes p =
      let c := s.port p
      let view := s.alarms.filter fun e => decide (c.role = .monitor ∨ c.role ∈ e.roles)
      [c.flags] ++ w2 s.overflow ++ w1 view.length ++ w1 (view.filter fun e => decide (e.state = .activeUnacked)).length ++ [c.mask] := by
  simp only [State.summaryBytes, State.viewOf, alarmView_eq_filter, beq_eq_decide]

theorem exec_readSummary (p : PortId) (s : State) : exec (.readSummary p) s = execReadSummary p s := rfl

theorem exec_setAttentionMask (p : PortId) (s : State) : exec (.setAttentionMask p) s = execSetAttentionMask p s := rfl

/-- The answer to SET_ATTENTION_MASK: the mask as it was sent, and the flags as they stand (R146). -/
theorem handleSetAttentionMask_byte (p : PortId) (m : Byte) (s : State) :
    handleSetAttentionMask p m.toNat s =
      answerWith [m, (s.port p).flags] (s.modPort p fun c => { c with mask := m }) := by
  simp only [handleSetAttentionMask, BitVec.ofNat_toNat, BitVec.setWidth_eq, modPort_port_same]

/-! ### Flags in a set of flags -/

/-- The number of a flag's bit (R171). -/
def Flag.index : Flag → Nat
  | .rooms => 0
  | .bays => 1
  | .defrost => 2
  | .pallets => 3
  | .orders => 4
  | .alarms => 5
  | .line => 6
  | .reset => 7

theorem Flag.bit_eq_twoPow (k : Flag) : k.bit = BitVec.twoPow 8 k.index := by cases k <;> rfl

theorem Flag.bit_ne_zero (k : Flag) : k.bit ≠ 0 := by cases k <;> decide

/-- Each of the eight bits is a flag's. -/
theorem Flag.exists_index_eq : ∀ {i : Nat}, i < 8 → ∃ k : Flag, k.index = i
  | 0, _ => ⟨.rooms, rfl⟩
  | 1, _ => ⟨.bays, rfl⟩
  | 2, _ => ⟨.defrost, rfl⟩
  | 3, _ => ⟨.pallets, rfl⟩
  | 4, _ => ⟨.orders, rfl⟩
  | 5, _ => ⟨.alarms, rfl⟩
  | 6, _ => ⟨.line, rfl⟩
  | 7, _ => ⟨.reset, rfl⟩

/-- A flag is in a set of flags exactly where its bit is 1. -/
theorem and_bit_eq_bit_iff (x : BitVec 8) (k : Flag) : x &&& k.bit = k.bit ↔ x.getLsbD k.index = true := by
  have hne : 0 ≠ BitVec.twoPow 8 k.index := k.bit_eq_twoPow ▸ k.bit_ne_zero.symm
  rw [k.bit_eq_twoPow, BitVec.and_twoPow]
  split
  · next hbit => exact iff_of_true rfl hbit
  · next hbit => exact iff_of_false hne hbit

/-- A set of flags is empty exactly where no flag is in it. -/
theorem ne_zero_iff_exists_flag (x : BitVec 8) : x ≠ 0 ↔ ∃ k : Flag, x.getLsbD k.index = true := by
  constructor
  · intro hx
    obtain ⟨i, hi⟩ : ∃ i, x.getLsbD i = true := by
      by_contra hnone
      exact hx (BitVec.eq_of_getLsbD_eq fun i _ => by simpa using fun hi => hnone ⟨i, hi⟩)
    obtain ⟨k, hk⟩ := Flag.exists_index_eq (BitVec.lt_of_getLsbD hi)
    exact ⟨k, hk ▸ hi⟩
  · rintro ⟨k, hk⟩ rfl
    simp at hk

/-- ATN# of a part not held in reset: asserted exactly while a flag that is set is in the mask (R146). -/
theorem atnPin_iff {s : State} (hfree : s.hold = none) (p : PortId) :
    s.atnPin p ↔ ∃ k : Flag, (s.port p).flags &&& k.bit = k.bit ∧ (s.port p).mask &&& k.bit = k.bit := by
  have hpin : s.atnPin p ↔ (s.port p).flags &&& (s.port p).mask ≠ 0 := by simp [State.atnPin, hfree]
  simp only [hpin, ne_zero_iff_exists_flag, BitVec.getLsbD_and, Bool.and_eq_true, and_bit_eq_bit_iff]

/-- Settles O47: both requests are open to every role, so each is answered by its block; ATN# is read bit by bit. -/
theorem summaryIsReadAndTheMaskIsSet : Obligations.SummaryIsReadAndTheMaskIsSet := by
  unfold Obligations.SummaryIsReadAndTheMaskIsSet
  refine ⟨fun s p hasks => ?summary, fun s p m hasks => ?mask, fun s p hfree => atnPin_iff hfree p⟩
  case summary =>
    rw [exec_readSummary, execReadSummary, takeRequest_asks hasks (by decide) (allRoles_contains _) parse0_nil,
      handleReadSummary, summaryBytes_eq]
    rfl
  case mask =>
    rw [exec_setAttentionMask, execSetAttentionMask, takeRequest_asks hasks (by decide) (allRoles_contains _) (parse1_singleton m),
      handleSetAttentionMask_byte]
    rfl

end Sys2Proof.Machine
